-- ==== Sys2Proof/Word.lean ====
section
/-! DEFINITION. The word types: bytes, and the 16- and 32-bit numbers of the packets and segments (R12, R91). -/

namespace Sys2Proof

/-- A byte: 8 bits, bit 7 the most significant (R12). -/
abbrev Byte := BitVec 8

/-- A 16-bit number: the width and height registers (R22, R23). -/
abbrev Half := BitVec 16

/-- A 32-bit number: the `width`, `height` and `len` fields of a packet (R91). -/
abbrev Quad := BitVec 32

end Sys2Proof
end

