-- ==== Sys2Proof/Config.lean ====
section
/-! DEFINITION. The parameters of the hardware (R9) and the model's free values. -/

namespace Sys2Proof

/-- `BAND_HEIGHT`: rows of one MCU band (R9, R190). -/
abbrev Config.bandHeight : Nat := 8

/-- The greatest legal width and height (R9, R22, R23, D10). -/
abbrev Config.maxDimension : Nat := 65535

/-- The greatest legal quality (R9, R25). -/
abbrev Config.maxQuality : Nat := 100

/-- FREE VALUE (log 10): the quantiser's quotient for a table entry 0. R212: the divisor is never 0,
since every entry of a table that CONSTRUCT wrote is at least 1; in a state whose table holds a 0 the
rules give no quotient, and nothing constrains this one. -/
opaque Config.quantByZero : Nat → Nat

/-- FREE VALUE (log 11): the sample read at row, component, column where PENDING holds none. The rules
read only samples that exist (R30, R38). -/
opaque Config.absentSample : Nat → Nat → Nat → Byte

/-- FREE VALUE (log 11): the byte read at an index past the end of a strip, a pixel or a symbol list.
The rules read only bytes that exist (R60, R66). -/
opaque Config.absentByte : Nat → Byte

/-- FREE VALUE (log 9): the number read at an index past the end of a block, a coefficient list or a row of
FDCT1D, a function of the list and the index. The rules read lists of 64 and of 8 numbers (R209 to R238). -/
opaque Config.absentNumber : List Int → Nat → Int

/-- FREE VALUE (log 9): the entry read at an index past the end of a base table or of the counts of a Huffman
specification, a function of the list and the index. The rules read 64 and 16 entries (R205, R231). -/
opaque Config.absentCount : List Nat → Nat → Nat

/-- FREE VALUE (log 9): `scale` of QSCALE for a quality outside 1 to 100. R205 gives it for a validated quality
only. -/
opaque Config.unstatedScale : Nat → Nat

end Sys2Proof
end

