-- ==== Sys2Proof/Syntax.lean ====
section
/-! DEFINITION. The instructions: one constructor for each row of spec/opcode_table.json, in the table's
order. The rows are the codes of seven spaces (INDEX.md): the host commands and reserved opcodes (byte 0
of a packet), the statuses (byte 0 of a response), the colour types (byte 9 of CONSTRUCT), the markers, the
internal operations, which have no encoding (R15), and the 348 Huffman codes (R233). Only the packets are
fetched by `Sys2Proof.Machine.step`; the commands run the others. -/

namespace Sys2Proof

/-- The instructions of the core. A Huffman code's constructor is named by its table and its symbol in
hexadecimal: `huffAc0_F0` is the code of symbol 0xF0 (sixteen zeros) in `HT_AC[0]`. -/
inductive Instr where
  /-- CONSTRUCT, R141: create an instance and write the header. -/
  | construct (width : Quad) (height : Quad) (colorType : Byte) (quality : Byte)
  /-- ENCODE_STRIP, R142: accept a strip of whole rows. -/
  | encodeStrip (rows : List Byte)
  /-- FINISH, R143: code the last band, pad, write EOI. -/
  | finish
  /-- TAKE_OUTPUT, R144: drain the output accumulator. -/
  | takeOutput
  /-- HEADER_BYTES, R145: the header of a configuration. -/
  | headerBytes (width : Quad) (height : Quad) (colorType : Byte) (quality : Byte)
  /-- FOOTER_BYTES, R146: the footer. -/
  | footerBytes
  /-- DISPOSE, R147: give up the instance. -/
  | dispose
  /-- RESERVED_OPCODE_0x00, R148: opcode 0x00. -/
  | reservedOp00
  /-- RESERVED_OPCODE_0x08..0x0F, R148: opcodes 0x08 to 0x0F, `low` the bits below the fixed ones. -/
  | reservedOp08 (low : BitVec 3)
  /-- RESERVED_OPCODE_0x10..0x1F, R148: opcodes 0x10 to 0x1F. -/
  | reservedOp10 (low : BitVec 4)
  /-- RESERVED_OPCODE_0x20..0x3F, R148: opcodes 0x20 to 0x3F. -/
  | reservedOp20 (low : BitVec 5)
  /-- RESERVED_OPCODE_0x40..0x7F, R148: opcodes 0x40 to 0x7F. -/
  | reservedOp40 (low : BitVec 6)
  /-- RESERVED_OPCODE_0x80..0xFF, R148: opcodes 0x80 to 0xFF. -/
  | reservedOp80 (low : BitVec 7)
  /-- STATUS.Ok, R92: the response Ok with its bytes. -/
  | statusOk (bytes : List Byte)
  /-- STATUS.InvalidDimension, R291. -/
  | statusInvalidDimension
  /-- STATUS.InvalidQuality, R292. -/
  | statusInvalidQuality
  /-- STATUS.MalformedStripLength, R293. -/
  | statusMalformedStripLength
  /-- STATUS.RowOverflow, R294. -/
  | statusRowOverflow
  /-- STATUS.IncompleteImage, R295. -/
  | statusIncompleteImage
  /-- STATUS.EncoderFinished, R296. -/
  | statusEncoderFinished
  /-- STATUS.InvalidColorType, R297. -/
  | statusInvalidColorType
  /-- STATUS.NotConstructed, R299. -/
  | statusNotConstructed
  /-- STATUS.IllegalCommand, R302. -/
  | statusIllegalCommand
  /-- CVT.LUMA, R172: one Luma pixel. -/
  | cvtLuma (p0 : Byte)
  /-- CVT.RGB, R173: one Rgb pixel. -/
  | cvtRgb (p0 : Byte) (p1 : Byte) (p2 : Byte)
  /-- CVT.RGBA, R174: one Rgba pixel. -/
  | cvtRgba (p0 : Byte) (p1 : Byte) (p2 : Byte) (p3 : Byte)
  /-- CVT.BGR, R175: one Bgr pixel. -/
  | cvtBgr (p0 : Byte) (p1 : Byte) (p2 : Byte)
  /-- CVT.BGRA, R176: one Bgra pixel. -/
  | cvtBgra (p0 : Byte) (p1 : Byte) (p2 : Byte) (p3 : Byte)
  /-- CVT.YCBCR, R177: one Ycbcr pixel. -/
  | cvtYcbcr (p0 : Byte) (p1 : Byte) (p2 : Byte)
  /-- CVT.CMYK, R178: one Cmyk pixel. -/
  | cvtCmyk (p0 : Byte) (p1 : Byte) (p2 : Byte) (p3 : Byte)
  /-- CVT.CMYKASYCCK, R179: one CmykAsYcck pixel. -/
  | cvtCmykAsYcck (p0 : Byte) (p1 : Byte) (p2 : Byte) (p3 : Byte)
  /-- CVT.YCCK, R180: one Ycck pixel. -/
  | cvtYcck (p0 : Byte) (p1 : Byte) (p2 : Byte) (p3 : Byte)
  /-- RESERVED_COLOR_TYPE_0x09, R297: color_type 0x09. -/
  | reservedColor09
  /-- RESERVED_COLOR_TYPE_0x0A..0x0B, R297: color_type 0x0A and 0x0B. -/
  | reservedColor0A (low : BitVec 1)
  /-- RESERVED_COLOR_TYPE_0x0C..0x0F, R297: color_type 0x0C to 0x0F. -/
  | reservedColor0C (low : BitVec 2)
  /-- RESERVED_COLOR_TYPE_0x10..0x1F, R297: color_type 0x10 to 0x1F. -/
  | reservedColor10 (low : BitVec 4)
  /-- RESERVED_COLOR_TYPE_0x20..0x3F, R297: color_type 0x20 to 0x3F. -/
  | reservedColor20 (low : BitVec 5)
  /-- RESERVED_COLOR_TYPE_0x40..0x7F, R297: color_type 0x40 to 0x7F. -/
  | reservedColor40 (low : BitVec 6)
  /-- RESERVED_COLOR_TYPE_0x80..0xFF, R297: color_type 0x80 to 0xFF. -/
  | reservedColor80 (low : BitVec 7)
  /-- WRITE_SOI, R264. -/
  | writeSoi
  /-- WRITE_APP0, R265. -/
  | writeApp0
  /-- WRITE_APP14, R266. -/
  | writeApp14
  /-- WRITE_DQT, R267: quantisation table `t`. -/
  | writeDqt (t : Fin 2)
  /-- WRITE_SOF0, R268. -/
  | writeSof0
  /-- WRITE_DHT, R269: class 0 DC, 1 AC; table `h`. -/
  | writeDht (cls : Fin 2) (h : Fin 2)
  /-- WRITE_SOS, R270. -/
  | writeSos
  /-- WRITE_EOI, R271. -/
  | writeEoi
  /-- RGB2YCC, R171. -/
  | rgb2ycc (r : Byte) (g : Byte) (b : Byte)
  /-- CONVERT_ROW, R181: the row at byte offset `off` of the strip. -/
  | convertRow (strip : List Byte) (off : Nat)
  /-- APPEND_ROWS, R191: `n` rows of the strip `rows`. -/
  | appendRows (rows : List Byte) (n : Nat)
  /-- BAND, R192. -/
  | band
  /-- PAD_BAND, R194. -/
  | padBand
  /-- QSCALE, R205. -/
  | qscale (base : List Nat) (quality : Nat)
  /-- EXTRACT, R207: block column `bx` of component `c`. -/
  | extract (bx : Nat) (c : Fin 4)
  /-- FDCT1D, R209. -/
  | fdct1d (d : List Int) (first : Bool)
  /-- FDCT, R210. -/
  | fdct (blk : List Int)
  /-- QUANT, R212. -/
  | quant (coef : List Int) (t : Fin 2)
  /-- TRANSFORM, R214. -/
  | transform (blk : List Int) (t : Fin 2)
  /-- HUFFGEN, R232. -/
  | huffgen (bits : List Nat) (vals : List Byte)
  /-- SIZE, R234. -/
  | size (v : Int)
  /-- MAG, R235: `n` is SIZE(v). -/
  | mag (v : Int) (n : Nat)
  /-- ENC_DC, R236. -/
  | encDc (dc : Int) (c : Fin 4)
  /-- ENC_AC, R237: `zz` in zig-zag order. -/
  | encAc (zz : List Int) (c : Fin 4)
  /-- ENCBLK, R238: `q` in natural order. -/
  | encblk (q : List Int) (c : Fin 4)
  /-- PUTBITS, R260: the `n` low bits of `v`. -/
  | putbits (v : Nat) (n : Nat)
  /-- EMIT_ECS, R261. -/
  | emitEcs (b : Byte)
  /-- FLUSH, R262. -/
  | flush
  /-- WRITE_RAW, R263. -/
  | writeRaw (bytes : List Byte)
  /-- WRITE_HEADER, R272. -/
  | writeHeader
  -- the codes of HT_DC[0] (R233)
  | huffDc0_00
  | huffDc0_01
  | huffDc0_02
  | huffDc0_03
  | huffDc0_04
  | huffDc0_05
  | huffDc0_06
  | huffDc0_07
  | huffDc0_08
  | huffDc0_09
  | huffDc0_0A
  | huffDc0_0B
  -- the codes of HT_AC[0] (R233)
  | huffAc0_01
  | huffAc0_02
  | huffAc0_03
  | huffAc0_00
  | huffAc0_04
  | huffAc0_11
  | huffAc0_05
  | huffAc0_12
  | huffAc0_21
  | huffAc0_31
  | huffAc0_41
  | huffAc0_06
  | huffAc0_13
  | huffAc0_51
  | huffAc0_61
  | huffAc0_07
  | huffAc0_22
  | huffAc0_71
  | huffAc0_14
  | huffAc0_32
  | huffAc0_81
  | huffAc0_91
  | huffAc0_A1
  | huffAc0_08
  | huffAc0_23
  | huffAc0_42
  | huffAc0_B1
  | huffAc0_C1
  | huffAc0_15
  | huffAc0_52
  | huffAc0_D1
  | huffAc0_F0
  | huffAc0_24
  | huffAc0_33
  | huffAc0_62
  | huffAc0_72
  | huffAc0_82
  | huffAc0_09
  | huffAc0_0A
  | huffAc0_16
  | huffAc0_17
  | huffAc0_18
  | huffAc0_19
  | huffAc0_1A
  | huffAc0_25
  | huffAc0_26
  | huffAc0_27
  | huffAc0_28
  | huffAc0_29
  | huffAc0_2A
  | huffAc0_34
  | huffAc0_35
  | huffAc0_36
  | huffAc0_37
  | huffAc0_38
  | huffAc0_39
  | huffAc0_3A
  | huffAc0_43
  | huffAc0_44
  | huffAc0_45
  | huffAc0_46
  | huffAc0_47
  | huffAc0_48
  | huffAc0_49
  | huffAc0_4A
  | huffAc0_53
  | huffAc0_54
  | huffAc0_55
  | huffAc0_56
  | huffAc0_57
  | huffAc0_58
  | huffAc0_59
  | huffAc0_5A
  | huffAc0_63
  | huffAc0_64
  | huffAc0_65
  | huffAc0_66
  | huffAc0_67
  | huffAc0_68
  | huffAc0_69
  | huffAc0_6A
  | huffAc0_73
  | huffAc0_74
  | huffAc0_75
  | huffAc0_76
  | huffAc0_77
  | huffAc0_78
  | huffAc0_79
  | huffAc0_7A
  | huffAc0_83
  | huffAc0_84
  | huffAc0_85
  | huffAc0_86
  | huffAc0_87
  | huffAc0_88
  | huffAc0_89
  | huffAc0_8A
  | huffAc0_92
  | huffAc0_93
  | huffAc0_94
  | huffAc0_95
  | huffAc0_96
  | huffAc0_97
  | huffAc0_98
  | huffAc0_99
  | huffAc0_9A
  | huffAc0_A2
  | huffAc0_A3
  | huffAc0_A4
  | huffAc0_A5
  | huffAc0_A6
  | huffAc0_A7
  | huffAc0_A8
  | huffAc0_A9
  | huffAc0_AA
  | huffAc0_B2
  | huffAc0_B3
  | huffAc0_B4
  | huffAc0_B5
  | huffAc0_B6
  | huffAc0_B7
  | huffAc0_B8
  | huffAc0_B9
  | huffAc0_BA
  | huffAc0_C2
  | huffAc0_C3
  | huffAc0_C4
  | huffAc0_C5
  | huffAc0_C6
  | huffAc0_C7
  | huffAc0_C8
  | huffAc0_C9
  | huffAc0_CA
  | huffAc0_D2
  | huffAc0_D3
  | huffAc0_D4
  | huffAc0_D5
  | huffAc0_D6
  | huffAc0_D7
  | huffAc0_D8
  | huffAc0_D9
  | huffAc0_DA
  | huffAc0_E1
  | huffAc0_E2
  | huffAc0_E3
  | huffAc0_E4
  | huffAc0_E5
  | huffAc0_E6
  | huffAc0_E7
  | huffAc0_E8
  | huffAc0_E9
  | huffAc0_EA
  | huffAc0_F1
  | huffAc0_F2
  | huffAc0_F3
  | huffAc0_F4
  | huffAc0_F5
  | huffAc0_F6
  | huffAc0_F7
  | huffAc0_F8
  | huffAc0_F9
  | huffAc0_FA
  -- the codes of HT_DC[1] (R233)
  | huffDc1_00
  | huffDc1_01
  | huffDc1_02
  | huffDc1_03
  | huffDc1_04
  | huffDc1_05
  | huffDc1_06
  | huffDc1_07
  | huffDc1_08
  | huffDc1_09
  | huffDc1_0A
  | huffDc1_0B
  -- the codes of HT_AC[1] (R233)
  | huffAc1_00
  | huffAc1_01
  | huffAc1_02
  | huffAc1_03
  | huffAc1_11
  | huffAc1_04
  | huffAc1_05
  | huffAc1_21
  | huffAc1_31
  | huffAc1_06
  | huffAc1_12
  | huffAc1_41
  | huffAc1_51
  | huffAc1_07
  | huffAc1_61
  | huffAc1_71
  | huffAc1_13
  | huffAc1_22
  | huffAc1_32
  | huffAc1_81
  | huffAc1_08
  | huffAc1_14
  | huffAc1_42
  | huffAc1_91
  | huffAc1_A1
  | huffAc1_B1
  | huffAc1_C1
  | huffAc1_09
  | huffAc1_23
  | huffAc1_33
  | huffAc1_52
  | huffAc1_F0
  | huffAc1_15
  | huffAc1_62
  | huffAc1_72
  | huffAc1_D1
  | huffAc1_0A
  | huffAc1_16
  | huffAc1_24
  | huffAc1_34
  | huffAc1_E1
  | huffAc1_25
  | huffAc1_F1
  | huffAc1_17
  | huffAc1_18
  | huffAc1_19
  | huffAc1_1A
  | huffAc1_26
  | huffAc1_27
  | huffAc1_28
  | huffAc1_29
  | huffAc1_2A
  | huffAc1_35
  | huffAc1_36
  | huffAc1_37
  | huffAc1_38
  | huffAc1_39
  | huffAc1_3A
  | huffAc1_43
  | huffAc1_44
  | huffAc1_45
  | huffAc1_46
  | huffAc1_47
  | huffAc1_48
  | huffAc1_49
  | huffAc1_4A
  | huffAc1_53
  | huffAc1_54
  | huffAc1_55
  | huffAc1_56
  | huffAc1_57
  | huffAc1_58
  | huffAc1_59
  | huffAc1_5A
  | huffAc1_63
  | huffAc1_64
  | huffAc1_65
  | huffAc1_66
  | huffAc1_67
  | huffAc1_68
  | huffAc1_69
  | huffAc1_6A
  | huffAc1_73
  | huffAc1_74
  | huffAc1_75
  | huffAc1_76
  | huffAc1_77
  | huffAc1_78
  | huffAc1_79
  | huffAc1_7A
  | huffAc1_82
  | huffAc1_83
  | huffAc1_84
  | huffAc1_85
  | huffAc1_86
  | huffAc1_87
  | huffAc1_88
  | huffAc1_89
  | huffAc1_8A
  | huffAc1_92
  | huffAc1_93
  | huffAc1_94
  | huffAc1_95
  | huffAc1_96
  | huffAc1_97
  | huffAc1_98
  | huffAc1_99
  | huffAc1_9A
  | huffAc1_A2
  | huffAc1_A3
  | huffAc1_A4
  | huffAc1_A5
  | huffAc1_A6
  | huffAc1_A7
  | huffAc1_A8
  | huffAc1_A9
  | huffAc1_AA
  | huffAc1_B2
  | huffAc1_B3
  | huffAc1_B4
  | huffAc1_B5
  | huffAc1_B6
  | huffAc1_B7
  | huffAc1_B8
  | huffAc1_B9
  | huffAc1_BA
  | huffAc1_C2
  | huffAc1_C3
  | huffAc1_C4
  | huffAc1_C5
  | huffAc1_C6
  | huffAc1_C7
  | huffAc1_C8
  | huffAc1_C9
  | huffAc1_CA
  | huffAc1_D2
  | huffAc1_D3
  | huffAc1_D4
  | huffAc1_D5
  | huffAc1_D6
  | huffAc1_D7
  | huffAc1_D8
  | huffAc1_D9
  | huffAc1_DA
  | huffAc1_E2
  | huffAc1_E3
  | huffAc1_E4
  | huffAc1_E5
  | huffAc1_E6
  | huffAc1_E7
  | huffAc1_E8
  | huffAc1_E9
  | huffAc1_EA
  | huffAc1_F2
  | huffAc1_F3
  | huffAc1_F4
  | huffAc1_F5
  | huffAc1_F6
  | huffAc1_F7
  | huffAc1_F8
  | huffAc1_F9
  | huffAc1_FA
  deriving DecidableEq, Repr

end Sys2Proof
end

