-- ==== Sys2Proof/WellFormed.lean ====
section
/-! DEFINITION. Which instructions are well formed: the operand ranges their rules state. The command
packets' fields may hold any number (R91: legality is checked by the command, not the decoder). -/

namespace Sys2Proof

/-- `n` is from 1 to 16 and `v` below 2^n (the operands of PUTBITS, R260), or `n` is 0, for which PUTBITS does
nothing. -/
def putbitsRange (v n : Nat) : Bool := decide (n ≤ 16) && decide (v < 2 ^ n)

/-- `n` is SIZE(v) (R234): 0 for 0, else the `n` with 2^(n-1) ≤ |v| < 2^n. -/
def isSizeOf (v : Int) (n : Nat) : Bool :=
  if n = 0 then decide (v = 0) else decide (2 ^ (n - 1) ≤ v.natAbs) && decide (v.natAbs < 2 ^ n)

/-- The operands are in the ranges the rules give. Checks that depend on the state (a strip's length
against STRIDE, a block column against BLOCKS_W) are the instruction's own. An internal operation runs on
operands outside these ranges too (log 9), and so does ENCODE_STRIP on a strip that no packet can carry (log 25). -/
def Instr.wf : Instr → Bool
  | .construct _ _ _ _ => true
  -- R90: the length field has 32 bits
  | .encodeStrip rows => decide (rows.length < 2 ^ 32)
  | .finish | .takeOutput => true
  | .headerBytes _ _ _ _ => true
  | .footerBytes | .dispose => true
  | .reservedOp00 | .reservedOp08 _ | .reservedOp10 _ | .reservedOp20 _ | .reservedOp40 _ | .reservedOp80 _ => true
  -- R92: the count field has 32 bits
  | .statusOk bytes => decide (bytes.length < 2 ^ 32)
  | .statusInvalidDimension | .statusInvalidQuality | .statusMalformedStripLength | .statusRowOverflow
  | .statusIncompleteImage | .statusEncoderFinished | .statusInvalidColorType | .statusNotConstructed
  | .statusIllegalCommand => true
  | .cvtLuma _ | .cvtRgb _ _ _ | .cvtRgba _ _ _ _ | .cvtBgr _ _ _ | .cvtBgra _ _ _ _ | .cvtYcbcr _ _ _
  | .cvtCmyk _ _ _ _ | .cvtCmykAsYcck _ _ _ _ | .cvtYcck _ _ _ _ => true
  | .reservedColor09 | .reservedColor0A _ | .reservedColor0C _ | .reservedColor10 _ | .reservedColor20 _
  | .reservedColor40 _ | .reservedColor80 _ => true
  | .writeSoi | .writeApp0 | .writeApp14 | .writeDqt _ | .writeSof0 | .writeDht _ _ | .writeSos | .writeEoi => true
  | .rgb2ycc _ _ _ => true
  | .convertRow _ _ | .appendRows _ _ | .band | .padBand => true
  -- R205: a base table of 64 entries, a validated quality
  | .qscale base quality => decide (base.length = 64) && decide (1 ≤ quality) && decide (quality ≤ Config.maxQuality)
  -- R27: BLOCKS_W is at most 8192
  | .extract bx _ => decide (bx < 8192)
  | .fdct1d d _ => decide (d.length = 8)
  | .fdct blk => decide (blk.length = 64)
  | .quant coef _ => decide (coef.length = 64)
  | .transform blk _ => decide (blk.length = 64)
  -- R231: 16 counts that add up to the number of symbols
  | .huffgen bits vals => decide (bits.length = 16) && decide (bits.sum = vals.length)
  | .size _ => true
  | .mag v n => isSizeOf v n
  | .encDc _ _ => true
  | .encAc zz _ => decide (zz.length = 64)
  | .encblk q _ => decide (q.length = 64)
  | .putbits v n => putbitsRange v n
  | .emitEcs _ | .flush | .writeRaw _ | .writeHeader => true
  -- the Huffman codes have no operand
  | .huffDc0_00 | .huffDc0_01 | .huffDc0_02 | .huffDc0_03 | .huffDc0_04 | .huffDc0_05 | .huffDc0_06 | .huffDc0_07
  | .huffDc0_08 | .huffDc0_09 | .huffDc0_0A | .huffDc0_0B => true
  | .huffAc0_01 | .huffAc0_02 | .huffAc0_03 | .huffAc0_00 | .huffAc0_04 | .huffAc0_11 | .huffAc0_05 | .huffAc0_12
  | .huffAc0_21 | .huffAc0_31 | .huffAc0_41 | .huffAc0_06 | .huffAc0_13 | .huffAc0_51 | .huffAc0_61 | .huffAc0_07
  | .huffAc0_22 | .huffAc0_71 | .huffAc0_14 | .huffAc0_32 | .huffAc0_81 | .huffAc0_91 | .huffAc0_A1 | .huffAc0_08
  | .huffAc0_23 | .huffAc0_42 | .huffAc0_B1 | .huffAc0_C1 | .huffAc0_15 | .huffAc0_52 | .huffAc0_D1 | .huffAc0_F0
  | .huffAc0_24 | .huffAc0_33 | .huffAc0_62 | .huffAc0_72 | .huffAc0_82 | .huffAc0_09 | .huffAc0_0A | .huffAc0_16
  | .huffAc0_17 | .huffAc0_18 | .huffAc0_19 | .huffAc0_1A | .huffAc0_25 | .huffAc0_26 | .huffAc0_27 | .huffAc0_28
  | .huffAc0_29 | .huffAc0_2A | .huffAc0_34 | .huffAc0_35 | .huffAc0_36 | .huffAc0_37 | .huffAc0_38 | .huffAc0_39
  | .huffAc0_3A | .huffAc0_43 | .huffAc0_44 | .huffAc0_45 | .huffAc0_46 | .huffAc0_47 | .huffAc0_48 | .huffAc0_49
  | .huffAc0_4A | .huffAc0_53 | .huffAc0_54 | .huffAc0_55 | .huffAc0_56 | .huffAc0_57 | .huffAc0_58 | .huffAc0_59
  | .huffAc0_5A | .huffAc0_63 | .huffAc0_64 | .huffAc0_65 | .huffAc0_66 | .huffAc0_67 | .huffAc0_68 | .huffAc0_69
  | .huffAc0_6A | .huffAc0_73 | .huffAc0_74 | .huffAc0_75 | .huffAc0_76 | .huffAc0_77 | .huffAc0_78 | .huffAc0_79
  | .huffAc0_7A | .huffAc0_83 | .huffAc0_84 | .huffAc0_85 | .huffAc0_86 | .huffAc0_87 | .huffAc0_88 | .huffAc0_89
  | .huffAc0_8A | .huffAc0_92 | .huffAc0_93 | .huffAc0_94 | .huffAc0_95 | .huffAc0_96 | .huffAc0_97 | .huffAc0_98
  | .huffAc0_99 | .huffAc0_9A | .huffAc0_A2 | .huffAc0_A3 | .huffAc0_A4 | .huffAc0_A5 | .huffAc0_A6 | .huffAc0_A7
  | .huffAc0_A8 | .huffAc0_A9 | .huffAc0_AA | .huffAc0_B2 | .huffAc0_B3 | .huffAc0_B4 | .huffAc0_B5 | .huffAc0_B6
  | .huffAc0_B7 | .huffAc0_B8 | .huffAc0_B9 | .huffAc0_BA | .huffAc0_C2 | .huffAc0_C3 | .huffAc0_C4 | .huffAc0_C5
  | .huffAc0_C6 | .huffAc0_C7 | .huffAc0_C8 | .huffAc0_C9 | .huffAc0_CA | .huffAc0_D2 | .huffAc0_D3 | .huffAc0_D4
  | .huffAc0_D5 | .huffAc0_D6 | .huffAc0_D7 | .huffAc0_D8 | .huffAc0_D9 | .huffAc0_DA | .huffAc0_E1 | .huffAc0_E2
  | .huffAc0_E3 | .huffAc0_E4 | .huffAc0_E5 | .huffAc0_E6 | .huffAc0_E7 | .huffAc0_E8 | .huffAc0_E9 | .huffAc0_EA
  | .huffAc0_F1 | .huffAc0_F2 | .huffAc0_F3 | .huffAc0_F4 | .huffAc0_F5 | .huffAc0_F6 | .huffAc0_F7 | .huffAc0_F8
  | .huffAc0_F9 | .huffAc0_FA => true
  | .huffDc1_00 | .huffDc1_01 | .huffDc1_02 | .huffDc1_03 | .huffDc1_04 | .huffDc1_05 | .huffDc1_06 | .huffDc1_07
  | .huffDc1_08 | .huffDc1_09 | .huffDc1_0A | .huffDc1_0B => true
  | .huffAc1_00 | .huffAc1_01 | .huffAc1_02 | .huffAc1_03 | .huffAc1_11 | .huffAc1_04 | .huffAc1_05 | .huffAc1_21
  | .huffAc1_31 | .huffAc1_06 | .huffAc1_12 | .huffAc1_41 | .huffAc1_51 | .huffAc1_07 | .huffAc1_61 | .huffAc1_71
  | .huffAc1_13 | .huffAc1_22 | .huffAc1_32 | .huffAc1_81 | .huffAc1_08 | .huffAc1_14 | .huffAc1_42 | .huffAc1_91
  | .huffAc1_A1 | .huffAc1_B1 | .huffAc1_C1 | .huffAc1_09 | .huffAc1_23 | .huffAc1_33 | .huffAc1_52 | .huffAc1_F0
  | .huffAc1_15 | .huffAc1_62 | .huffAc1_72 | .huffAc1_D1 | .huffAc1_0A | .huffAc1_16 | .huffAc1_24 | .huffAc1_34
  | .huffAc1_E1 | .huffAc1_25 | .huffAc1_F1 | .huffAc1_17 | .huffAc1_18 | .huffAc1_19 | .huffAc1_1A | .huffAc1_26
  | .huffAc1_27 | .huffAc1_28 | .huffAc1_29 | .huffAc1_2A | .huffAc1_35 | .huffAc1_36 | .huffAc1_37 | .huffAc1_38
  | .huffAc1_39 | .huffAc1_3A | .huffAc1_43 | .huffAc1_44 | .huffAc1_45 | .huffAc1_46 | .huffAc1_47 | .huffAc1_48
  | .huffAc1_49 | .huffAc1_4A | .huffAc1_53 | .huffAc1_54 | .huffAc1_55 | .huffAc1_56 | .huffAc1_57 | .huffAc1_58
  | .huffAc1_59 | .huffAc1_5A | .huffAc1_63 | .huffAc1_64 | .huffAc1_65 | .huffAc1_66 | .huffAc1_67 | .huffAc1_68
  | .huffAc1_69 | .huffAc1_6A | .huffAc1_73 | .huffAc1_74 | .huffAc1_75 | .huffAc1_76 | .huffAc1_77 | .huffAc1_78
  | .huffAc1_79 | .huffAc1_7A | .huffAc1_82 | .huffAc1_83 | .huffAc1_84 | .huffAc1_85 | .huffAc1_86 | .huffAc1_87
  | .huffAc1_88 | .huffAc1_89 | .huffAc1_8A | .huffAc1_92 | .huffAc1_93 | .huffAc1_94 | .huffAc1_95 | .huffAc1_96
  | .huffAc1_97 | .huffAc1_98 | .huffAc1_99 | .huffAc1_9A | .huffAc1_A2 | .huffAc1_A3 | .huffAc1_A4 | .huffAc1_A5
  | .huffAc1_A6 | .huffAc1_A7 | .huffAc1_A8 | .huffAc1_A9 | .huffAc1_AA | .huffAc1_B2 | .huffAc1_B3 | .huffAc1_B4
  | .huffAc1_B5 | .huffAc1_B6 | .huffAc1_B7 | .huffAc1_B8 | .huffAc1_B9 | .huffAc1_BA | .huffAc1_C2 | .huffAc1_C3
  | .huffAc1_C4 | .huffAc1_C5 | .huffAc1_C6 | .huffAc1_C7 | .huffAc1_C8 | .huffAc1_C9 | .huffAc1_CA | .huffAc1_D2
  | .huffAc1_D3 | .huffAc1_D4 | .huffAc1_D5 | .huffAc1_D6 | .huffAc1_D7 | .huffAc1_D8 | .huffAc1_D9 | .huffAc1_DA
  | .huffAc1_E2 | .huffAc1_E3 | .huffAc1_E4 | .huffAc1_E5 | .huffAc1_E6 | .huffAc1_E7 | .huffAc1_E8 | .huffAc1_E9
  | .huffAc1_EA | .huffAc1_F2 | .huffAc1_F3 | .huffAc1_F4 | .huffAc1_F5 | .huffAc1_F6 | .huffAc1_F7 | .huffAc1_F8
  | .huffAc1_F9 | .huffAc1_FA => true

end Sys2Proof
end

