-- ==== Sys2Proof/Decode.lean ====
section
/-! DEFINITION. Decoding and encoding. `decode` reads one command packet from the bytes the host has sent
(R90, R91, R95) and is total on any bytes; the other code spaces of the opcode table (responses, colour
types, marker segments, Huffman codes) have their own readers, which `decodeAny` joins; `encode` gives
every instruction's words in its own code space, written from the same tables of the spec. -/

namespace Sys2Proof

/-! ## Byte order (R12, R91) -/

/-- `zext_32(b1 ++ b2 ++ b3 ++ b4)`, `b1` the most significant byte (R91). -/
def quadOf (b1 b2 b3 b4 : Byte) : Quad := b1 ++ b2 ++ b3 ++ b4

/-- `BE32(v)`: four bytes, most significant first (R12). -/
def be32 (v : Quad) : List Byte :=
  [v.extractLsb' 24 8, v.extractLsb' 16 8, v.extractLsb' 8 8, v.extractLsb' 0 8]

/-- `BE16(v)`: two bytes, most significant first (R12). -/
def be16 (v : Half) : List Byte := [v.extractLsb' 8 8, v.extractLsb' 0 8]

/-! ## Command packets (R90, R95, R96) -/

/-- What stands at the head of the host's queue of bytes. -/
inductive Fetch where
  /-- No byte: no command has been sent. -/
  | idle
  /-- Bytes that end before the packet they begin does (R96, U2). -/
  | notWhole
  /-- One whole packet, read as `i`, and the bytes after it (U3). -/
  | packet (i : Instr) (rest : List Byte)
  deriving DecidableEq, Repr

/-- The operand fields shared by CONSTRUCT and HEADER_BYTES, bytes 1 to 10 of the packet (R90). -/
def decodeConfig (mk : Quad → Quad → Byte → Byte → Instr) : List Byte → Fetch
  | w1 :: w2 :: w3 :: w4 :: h1 :: h2 :: h3 :: h4 :: ct :: q :: rest =>
    .packet (mk (quadOf w1 w2 w3 w4) (quadOf h1 h2 h3 h4) ct q) rest
  | _ => .notWhole

/-- The length field and the payload of ENCODE_STRIP (R90). -/
def decodeStrip : List Byte → Fetch
  | l1 :: l2 :: l3 :: l4 :: tail =>
    let len := (quadOf l1 l2 l3 l4).toNat
    if len ≤ tail.length then .packet (.encodeStrip (tail.take len)) (tail.drop len) else .notWhole
  | _ => .notWhole

/-- One command packet (R90, R95); the reserved opcodes by the table's match and mask. -/
def decode : List Byte → Fetch
  | [] => .idle
  | op :: tail =>
    if op = 0x01#8 then decodeConfig .construct tail
    else if op = 0x02#8 then decodeStrip tail
    else if op = 0x03#8 then .packet .finish tail
    else if op = 0x04#8 then .packet .takeOutput tail
    else if op = 0x05#8 then decodeConfig .headerBytes tail
    else if op = 0x06#8 then .packet .footerBytes tail
    else if op = 0x07#8 then .packet .dispose tail
    else if op = 0x00#8 then .packet .reservedOp00 tail
    else if op &&& 0xF8#8 = 0x08#8 then .packet (.reservedOp08 (op.extractLsb' 0 3)) tail
    else if op &&& 0xF0#8 = 0x10#8 then .packet (.reservedOp10 (op.extractLsb' 0 4)) tail
    else if op &&& 0xE0#8 = 0x20#8 then .packet (.reservedOp20 (op.extractLsb' 0 5)) tail
    else if op &&& 0xC0#8 = 0x40#8 then .packet (.reservedOp40 (op.extractLsb' 0 6)) tail
    else .packet (.reservedOp80 (op.extractLsb' 0 7)) tail

/-- A word of the opcode table as the bytes of a packet, the least significant byte first, and zero bytes
after them up to the longest packet of fixed length, 11 bytes. -/
def tableBytes (nbits w : Nat) : List Byte :=
  let n := (nbits + 7) / 8
  (List.range n).map (fun j => BitVec.ofNat 8 (w / 256 ^ j)) ++ List.replicate (11 - n) 0#8

/-- The bytes of `tableBytes` that its packet takes. -/
def tablePacket (nbits w : Nat) : List Byte :=
  match decode (tableBytes nbits w) with
  | .packet _ rest => (tableBytes nbits w).take ((tableBytes nbits w).length - rest.length)
  | .notWhole => tableBytes nbits w
  | .idle => tableBytes nbits w

/-- The instruction the packet decoder reads from a word of the opcode table (log 7). -/
def decodeTableWord (nbits w : Nat) : Option Instr :=
  match decode (tableBytes nbits w) with
  | .packet i _ => some i
  | .notWhole => none
  | .idle => none

/-! ## Responses (R92, R93) -/

/-- A response with the status byte and the `n` bytes its count gives (R92); a rejection has none. -/
def decodeResponse : List Byte → Option Instr
  | st :: n1 :: n2 :: n3 :: n4 :: bytes =>
    if (quadOf n1 n2 n3 n4).toNat ≠ bytes.length then none
    else if st = 0x00#8 then some (.statusOk bytes)
    else if bytes ≠ [] then none
    else if st = 0x01#8 then some .statusInvalidDimension
    else if st = 0x02#8 then some .statusInvalidQuality
    else if st = 0x03#8 then some .statusMalformedStripLength
    else if st = 0x04#8 then some .statusRowOverflow
    else if st = 0x05#8 then some .statusIncompleteImage
    else if st = 0x06#8 then some .statusEncoderFinished
    else if st = 0x07#8 then some .statusInvalidColorType
    else if st = 0x08#8 then some .statusNotConstructed
    else if st = 0x09#8 then some .statusIllegalCommand
    else none
  | _ => none

/-! ## Colour types (R94, R95, R98) -/

/-- The operation a `color_type` byte selects, for a pixel of the bytes it takes (R98); reserved values by
the table's match and mask, with no pixel. -/
def decodeColor (ct : Byte) (pixel : List Byte) : Option Instr :=
  if ct = 0x00#8 then (match pixel with | [p0] => some (.cvtLuma p0) | _ => none)
  else if ct = 0x01#8 then (match pixel with | [p0, p1, p2] => some (.cvtRgb p0 p1 p2) | _ => none)
  else if ct = 0x02#8 then (match pixel with | [p0, p1, p2, p3] => some (.cvtRgba p0 p1 p2 p3) | _ => none)
  else if ct = 0x03#8 then (match pixel with | [p0, p1, p2] => some (.cvtBgr p0 p1 p2) | _ => none)
  else if ct = 0x04#8 then (match pixel with | [p0, p1, p2, p3] => some (.cvtBgra p0 p1 p2 p3) | _ => none)
  else if ct = 0x05#8 then (match pixel with | [p0, p1, p2] => some (.cvtYcbcr p0 p1 p2) | _ => none)
  else if ct = 0x06#8 then (match pixel with | [p0, p1, p2, p3] => some (.cvtCmyk p0 p1 p2 p3) | _ => none)
  else if ct = 0x07#8 then (match pixel with | [p0, p1, p2, p3] => some (.cvtCmykAsYcck p0 p1 p2 p3) | _ => none)
  else if ct = 0x08#8 then (match pixel with | [p0, p1, p2, p3] => some (.cvtYcck p0 p1 p2 p3) | _ => none)
  else if pixel ≠ [] then none
  else if ct = 0x09#8 then some .reservedColor09
  else if ct &&& 0xFE#8 = 0x0A#8 then some (.reservedColor0A (ct.extractLsb' 0 1))
  else if ct &&& 0xFC#8 = 0x0C#8 then some (.reservedColor0C (ct.extractLsb' 0 2))
  else if ct &&& 0xF0#8 = 0x10#8 then some (.reservedColor10 (ct.extractLsb' 0 4))
  else if ct &&& 0xE0#8 = 0x20#8 then some (.reservedColor20 (ct.extractLsb' 0 5))
  else if ct &&& 0xC0#8 = 0x40#8 then some (.reservedColor40 (ct.extractLsb' 0 6))
  else some (.reservedColor80 (ct.extractLsb' 0 7))

/-! ## Marker segments (R101, R106, R108) -/

/-- The writer of a marker, from the marker's two bytes and, for DQT and DHT, the length field and the
byte that names the table (R106, R108). -/
def decodeSegment : List Byte → Option Instr
  | [m1, m2] =>
    if m1 ≠ 0xFF#8 then none
    else if m2 = 0xD8#8 then some .writeSoi
    else if m2 = 0xE0#8 then some .writeApp0
    else if m2 = 0xEE#8 then some .writeApp14
    else if m2 = 0xC0#8 then some .writeSof0
    else if m2 = 0xDA#8 then some .writeSos
    else if m2 = 0xD9#8 then some .writeEoi
    else none
  | [m1, m2, l1, l2, sel] =>
    if m1 = 0xFF#8 ∧ m2 = 0xDB#8 ∧ l1 = 0x00#8 ∧ l2 = 0x43#8 then
      (if sel = 0x00#8 then some (.writeDqt 0) else if sel = 0x01#8 then some (.writeDqt 1) else none)
    else if m1 = 0xFF#8 ∧ m2 = 0xC4#8 ∧ l1 = 0x00#8 ∧ l2 = 0x1F#8 then
      (if sel = 0x00#8 then some (.writeDht 0 0) else if sel = 0x01#8 then some (.writeDht 0 1) else none)
    else if m1 = 0xFF#8 ∧ m2 = 0xC4#8 ∧ l1 = 0x00#8 ∧ l2 = 0xB5#8 then
      (if sel = 0x10#8 then some (.writeDht 1 0) else if sel = 0x11#8 then some (.writeDht 1 1) else none)
    else none
  | _ => none

/-! ## Huffman codes (R231 to R233) -/

/-- The four Huffman tables (R29). -/
inductive HuffId where
  | dc0 | ac0 | dc1 | ac1
  deriving DecidableEq, Repr

/-- `bits[1..16]` of a table specification: how many codes have each length (R231). -/
def huffBits : HuffId → List Nat
  | .dc0 => [0, 1, 5, 1, 1, 1, 1, 1, 1, 0, 0, 0, 0, 0, 0, 0]
  | .ac0 => [0, 2, 1, 3, 3, 2, 4, 3, 5, 5, 4, 4, 0, 0, 1, 125]
  | .dc1 => [0, 3, 1, 1, 1, 1, 1, 1, 1, 1, 1, 0, 0, 0, 0, 0]
  | .ac1 => [0, 2, 1, 2, 4, 4, 3, 4, 7, 5, 4, 4, 0, 1, 2, 119]

/-- `vals` of the AC luminance table (R231). -/
def ac0Vals : List Byte :=
  List.flatten [
    [0x01, 0x02, 0x03, 0x00, 0x04, 0x11, 0x05, 0x12, 0x21, 0x31, 0x41, 0x06, 0x13, 0x51, 0x61, 0x07],
    [0x22, 0x71, 0x14, 0x32, 0x81, 0x91, 0xA1, 0x08, 0x23, 0x42, 0xB1, 0xC1, 0x15, 0x52, 0xD1, 0xF0],
    [0x24, 0x33, 0x62, 0x72, 0x82, 0x09, 0x0A, 0x16, 0x17, 0x18, 0x19, 0x1A, 0x25, 0x26, 0x27, 0x28],
    [0x29, 0x2A, 0x34, 0x35, 0x36, 0x37, 0x38, 0x39, 0x3A, 0x43, 0x44, 0x45, 0x46, 0x47, 0x48, 0x49],
    [0x4A, 0x53, 0x54, 0x55, 0x56, 0x57, 0x58, 0x59, 0x5A, 0x63, 0x64, 0x65, 0x66, 0x67, 0x68, 0x69],
    [0x6A, 0x73, 0x74, 0x75, 0x76, 0x77, 0x78, 0x79, 0x7A, 0x83, 0x84, 0x85, 0x86, 0x87, 0x88, 0x89],
    [0x8A, 0x92, 0x93, 0x94, 0x95, 0x96, 0x97, 0x98, 0x99, 0x9A, 0xA2, 0xA3, 0xA4, 0xA5, 0xA6, 0xA7],
    [0xA8, 0xA9, 0xAA, 0xB2, 0xB3, 0xB4, 0xB5, 0xB6, 0xB7, 0xB8, 0xB9, 0xBA, 0xC2, 0xC3, 0xC4, 0xC5],
    [0xC6, 0xC7, 0xC8, 0xC9, 0xCA, 0xD2, 0xD3, 0xD4, 0xD5, 0xD6, 0xD7, 0xD8, 0xD9, 0xDA, 0xE1, 0xE2],
    [0xE3, 0xE4, 0xE5, 0xE6, 0xE7, 0xE8, 0xE9, 0xEA, 0xF1, 0xF2, 0xF3, 0xF4, 0xF5, 0xF6, 0xF7, 0xF8],
    [0xF9, 0xFA]]

/-- `vals` of the AC chrominance table (R231). -/
def ac1Vals : List Byte :=
  List.flatten [
    [0x00, 0x01, 0x02, 0x03, 0x11, 0x04, 0x05, 0x21, 0x31, 0x06, 0x12, 0x41, 0x51, 0x07, 0x61, 0x71],
    [0x13, 0x22, 0x32, 0x81, 0x08, 0x14, 0x42, 0x91, 0xA1, 0xB1, 0xC1, 0x09, 0x23, 0x33, 0x52, 0xF0],
    [0x15, 0x62, 0x72, 0xD1, 0x0A, 0x16, 0x24, 0x34, 0xE1, 0x25, 0xF1, 0x17, 0x18, 0x19, 0x1A, 0x26],
    [0x27, 0x28, 0x29, 0x2A, 0x35, 0x36, 0x37, 0x38, 0x39, 0x3A, 0x43, 0x44, 0x45, 0x46, 0x47, 0x48],
    [0x49, 0x4A, 0x53, 0x54, 0x55, 0x56, 0x57, 0x58, 0x59, 0x5A, 0x63, 0x64, 0x65, 0x66, 0x67, 0x68],
    [0x69, 0x6A, 0x73, 0x74, 0x75, 0x76, 0x77, 0x78, 0x79, 0x7A, 0x82, 0x83, 0x84, 0x85, 0x86, 0x87],
    [0x88, 0x89, 0x8A, 0x92, 0x93, 0x94, 0x95, 0x96, 0x97, 0x98, 0x99, 0x9A, 0xA2, 0xA3, 0xA4, 0xA5],
    [0xA6, 0xA7, 0xA8, 0xA9, 0xAA, 0xB2, 0xB3, 0xB4, 0xB5, 0xB6, 0xB7, 0xB8, 0xB9, 0xBA, 0xC2, 0xC3],
    [0xC4, 0xC5, 0xC6, 0xC7, 0xC8, 0xC9, 0xCA, 0xD2, 0xD3, 0xD4, 0xD5, 0xD6, 0xD7, 0xD8, 0xD9, 0xDA],
    [0xE2, 0xE3, 0xE4, 0xE5, 0xE6, 0xE7, 0xE8, 0xE9, 0xEA, 0xF2, 0xF3, 0xF4, 0xF5, 0xF6, 0xF7, 0xF8],
    [0xF9, 0xFA]]

/-- `vals` of a table specification: the symbols in order of code length and code (R231). -/
def huffVals : HuffId → List Byte
  | .dc0 => [0, 1, 2, 3, 4, 5, 6, 7, 8, 9, 10, 11]
  | .ac0 => ac0Vals
  | .dc1 => [0, 1, 2, 3, 4, 5, 6, 7, 8, 9, 10, 11]
  | .ac1 => ac1Vals

/-- The instructions of table `dc0`, in the order of its `vals`. -/
def dc0Instrs : List Instr :=
  List.flatten [
    [.huffDc0_00, .huffDc0_01, .huffDc0_02, .huffDc0_03, .huffDc0_04, .huffDc0_05, .huffDc0_06, .huffDc0_07, .huffDc0_08],
    [.huffDc0_09, .huffDc0_0A, .huffDc0_0B]]

/-- The instructions of table `ac0`, in the order of its `vals`. -/
def ac0Instrs : List Instr :=
  List.flatten [
    [.huffAc0_01, .huffAc0_02, .huffAc0_03, .huffAc0_00, .huffAc0_04, .huffAc0_11, .huffAc0_05, .huffAc0_12, .huffAc0_21],
    [.huffAc0_31, .huffAc0_41, .huffAc0_06, .huffAc0_13, .huffAc0_51, .huffAc0_61, .huffAc0_07, .huffAc0_22, .huffAc0_71],
    [.huffAc0_14, .huffAc0_32, .huffAc0_81, .huffAc0_91, .huffAc0_A1, .huffAc0_08, .huffAc0_23, .huffAc0_42, .huffAc0_B1],
    [.huffAc0_C1, .huffAc0_15, .huffAc0_52, .huffAc0_D1, .huffAc0_F0, .huffAc0_24, .huffAc0_33, .huffAc0_62, .huffAc0_72],
    [.huffAc0_82, .huffAc0_09, .huffAc0_0A, .huffAc0_16, .huffAc0_17, .huffAc0_18, .huffAc0_19, .huffAc0_1A, .huffAc0_25],
    [.huffAc0_26, .huffAc0_27, .huffAc0_28, .huffAc0_29, .huffAc0_2A, .huffAc0_34, .huffAc0_35, .huffAc0_36, .huffAc0_37],
    [.huffAc0_38, .huffAc0_39, .huffAc0_3A, .huffAc0_43, .huffAc0_44, .huffAc0_45, .huffAc0_46, .huffAc0_47, .huffAc0_48],
    [.huffAc0_49, .huffAc0_4A, .huffAc0_53, .huffAc0_54, .huffAc0_55, .huffAc0_56, .huffAc0_57, .huffAc0_58, .huffAc0_59],
    [.huffAc0_5A, .huffAc0_63, .huffAc0_64, .huffAc0_65, .huffAc0_66, .huffAc0_67, .huffAc0_68, .huffAc0_69, .huffAc0_6A],
    [.huffAc0_73, .huffAc0_74, .huffAc0_75, .huffAc0_76, .huffAc0_77, .huffAc0_78, .huffAc0_79, .huffAc0_7A, .huffAc0_83],
    [.huffAc0_84, .huffAc0_85, .huffAc0_86, .huffAc0_87, .huffAc0_88, .huffAc0_89, .huffAc0_8A, .huffAc0_92, .huffAc0_93],
    [.huffAc0_94, .huffAc0_95, .huffAc0_96, .huffAc0_97, .huffAc0_98, .huffAc0_99, .huffAc0_9A, .huffAc0_A2, .huffAc0_A3],
    [.huffAc0_A4, .huffAc0_A5, .huffAc0_A6, .huffAc0_A7, .huffAc0_A8, .huffAc0_A9, .huffAc0_AA, .huffAc0_B2, .huffAc0_B3],
    [.huffAc0_B4, .huffAc0_B5, .huffAc0_B6, .huffAc0_B7, .huffAc0_B8, .huffAc0_B9, .huffAc0_BA, .huffAc0_C2, .huffAc0_C3],
    [.huffAc0_C4, .huffAc0_C5, .huffAc0_C6, .huffAc0_C7, .huffAc0_C8, .huffAc0_C9, .huffAc0_CA, .huffAc0_D2, .huffAc0_D3],
    [.huffAc0_D4, .huffAc0_D5, .huffAc0_D6, .huffAc0_D7, .huffAc0_D8, .huffAc0_D9, .huffAc0_DA, .huffAc0_E1, .huffAc0_E2],
    [.huffAc0_E3, .huffAc0_E4, .huffAc0_E5, .huffAc0_E6, .huffAc0_E7, .huffAc0_E8, .huffAc0_E9, .huffAc0_EA, .huffAc0_F1],
    [.huffAc0_F2, .huffAc0_F3, .huffAc0_F4, .huffAc0_F5, .huffAc0_F6, .huffAc0_F7, .huffAc0_F8, .huffAc0_F9, .huffAc0_FA]]

/-- The instructions of table `dc1`, in the order of its `vals`. -/
def dc1Instrs : List Instr :=
  List.flatten [
    [.huffDc1_00, .huffDc1_01, .huffDc1_02, .huffDc1_03, .huffDc1_04, .huffDc1_05, .huffDc1_06, .huffDc1_07, .huffDc1_08],
    [.huffDc1_09, .huffDc1_0A, .huffDc1_0B]]

/-- The instructions of table `ac1`, in the order of its `vals`. -/
def ac1Instrs : List Instr :=
  List.flatten [
    [.huffAc1_00, .huffAc1_01, .huffAc1_02, .huffAc1_03, .huffAc1_11, .huffAc1_04, .huffAc1_05, .huffAc1_21, .huffAc1_31],
    [.huffAc1_06, .huffAc1_12, .huffAc1_41, .huffAc1_51, .huffAc1_07, .huffAc1_61, .huffAc1_71, .huffAc1_13, .huffAc1_22],
    [.huffAc1_32, .huffAc1_81, .huffAc1_08, .huffAc1_14, .huffAc1_42, .huffAc1_91, .huffAc1_A1, .huffAc1_B1, .huffAc1_C1],
    [.huffAc1_09, .huffAc1_23, .huffAc1_33, .huffAc1_52, .huffAc1_F0, .huffAc1_15, .huffAc1_62, .huffAc1_72, .huffAc1_D1],
    [.huffAc1_0A, .huffAc1_16, .huffAc1_24, .huffAc1_34, .huffAc1_E1, .huffAc1_25, .huffAc1_F1, .huffAc1_17, .huffAc1_18],
    [.huffAc1_19, .huffAc1_1A, .huffAc1_26, .huffAc1_27, .huffAc1_28, .huffAc1_29, .huffAc1_2A, .huffAc1_35, .huffAc1_36],
    [.huffAc1_37, .huffAc1_38, .huffAc1_39, .huffAc1_3A, .huffAc1_43, .huffAc1_44, .huffAc1_45, .huffAc1_46, .huffAc1_47],
    [.huffAc1_48, .huffAc1_49, .huffAc1_4A, .huffAc1_53, .huffAc1_54, .huffAc1_55, .huffAc1_56, .huffAc1_57, .huffAc1_58],
    [.huffAc1_59, .huffAc1_5A, .huffAc1_63, .huffAc1_64, .huffAc1_65, .huffAc1_66, .huffAc1_67, .huffAc1_68, .huffAc1_69],
    [.huffAc1_6A, .huffAc1_73, .huffAc1_74, .huffAc1_75, .huffAc1_76, .huffAc1_77, .huffAc1_78, .huffAc1_79, .huffAc1_7A],
    [.huffAc1_82, .huffAc1_83, .huffAc1_84, .huffAc1_85, .huffAc1_86, .huffAc1_87, .huffAc1_88, .huffAc1_89, .huffAc1_8A],
    [.huffAc1_92, .huffAc1_93, .huffAc1_94, .huffAc1_95, .huffAc1_96, .huffAc1_97, .huffAc1_98, .huffAc1_99, .huffAc1_9A],
    [.huffAc1_A2, .huffAc1_A3, .huffAc1_A4, .huffAc1_A5, .huffAc1_A6, .huffAc1_A7, .huffAc1_A8, .huffAc1_A9, .huffAc1_AA],
    [.huffAc1_B2, .huffAc1_B3, .huffAc1_B4, .huffAc1_B5, .huffAc1_B6, .huffAc1_B7, .huffAc1_B8, .huffAc1_B9, .huffAc1_BA],
    [.huffAc1_C2, .huffAc1_C3, .huffAc1_C4, .huffAc1_C5, .huffAc1_C6, .huffAc1_C7, .huffAc1_C8, .huffAc1_C9, .huffAc1_CA],
    [.huffAc1_D2, .huffAc1_D3, .huffAc1_D4, .huffAc1_D5, .huffAc1_D6, .huffAc1_D7, .huffAc1_D8, .huffAc1_D9, .huffAc1_DA],
    [.huffAc1_E2, .huffAc1_E3, .huffAc1_E4, .huffAc1_E5, .huffAc1_E6, .huffAc1_E7, .huffAc1_E8, .huffAc1_E9, .huffAc1_EA],
    [.huffAc1_F2, .huffAc1_F3, .huffAc1_F4, .huffAc1_F5, .huffAc1_F6, .huffAc1_F7, .huffAc1_F8, .huffAc1_F9, .huffAc1_FA]]

/-- The instructions of a table, in the order of its `vals`. -/
def huffInstrs : HuffId → List Instr
  | .dc0 => dc0Instrs
  | .ac0 => ac0Instrs
  | .dc1 => dc1Instrs
  | .ac1 => ac1Instrs

/-- Reads one canonical code from the front of a bit sequence (R122, R232): `counts` the numbers of codes
of the lengths still to come, `first` the first code of the next length, `k` how many codes are shorter,
`c` the bits read so far. Answers the code's index in `vals` and the bits after it. -/
def readCode : (counts : List Nat) → (first k c : Nat) → List Bool → Option (Nat × List Bool)
  | n :: counts, first, k, c, b :: bits =>
    let c' := 2 * c + b.toNat
    if c' < first + n then some (k + (c' - first), bits)
    else readCode counts (2 * (first + n)) (k + n) c' bits
  | _, _, _, _, _ => none

/-- The code at the front of a bit sequence, in the table the component and the position fix (R122). -/
def decodeHuff (t : HuffId) (bits : List Bool) : Option (Instr × List Bool) :=
  match readCode (huffBits t) 0 0 0 bits with
  | some (k, rest) => (huffInstrs t)[k]?.map (fun i => (i, rest))
  | none => none

/-- The `n` low bits of `v`, most significant first (R12). -/
def bitsMsb (v n : Nat) : List Bool := (List.range n).map (fun j => v.testBit (n - 1 - j))

/-! ## The encoder -/

/-- An instruction's words in its code space. -/
inductive Encoding where
  /-- A command packet (R90). -/
  | packet (bytes : List Byte)
  /-- A serialised response (R92). -/
  | response (bytes : List Byte)
  /-- A `color_type` byte (R94) and the pixel it applies to (R98). -/
  | color (ct : Byte) (pixel : List Byte)
  /-- A marker, with the table's selector where the marker has several (R101, R106, R108). -/
  | segment (bytes : List Byte)
  /-- A code of a Huffman table: its value and its length in bits (R233). -/
  | code (t : HuffId) (value length : Nat)
  /-- An internal operation: no encoding of its own (R15). -/
  | internal
  deriving DecidableEq, Repr

/-- Bytes 1 to 10 of a CONSTRUCT or HEADER_BYTES packet (R90). -/
def configFields (w h : Quad) (ct q : Byte) : List Byte := be32 w ++ be32 h ++ [ct, q]

/-- `BE32` of a byte count, as the length fields hold it (R90, R92). -/
def countField (n : Nat) : List Byte := be32 (BitVec.ofNat 32 n)

/-- Every instruction's words, from the encoding tables of the spec. -/
def encode : Instr → Encoding
  | .construct w h ct q => .packet (0x01 :: configFields w h ct q)
  | .encodeStrip rows => .packet (0x02 :: (countField rows.length ++ rows))
  | .finish => .packet [0x03]
  | .takeOutput => .packet [0x04]
  | .headerBytes w h ct q => .packet (0x05 :: configFields w h ct q)
  | .footerBytes => .packet [0x06]
  | .dispose => .packet [0x07]
  | .reservedOp00 => .packet [0x00]
  | .reservedOp08 low => .packet [0x01#5 ++ low]
  | .reservedOp10 low => .packet [0x1#4 ++ low]
  | .reservedOp20 low => .packet [0x1#3 ++ low]
  | .reservedOp40 low => .packet [0x1#2 ++ low]
  | .reservedOp80 low => .packet [0x1#1 ++ low]
  | .statusOk bytes => .response (0x00 :: (countField bytes.length ++ bytes))
  | .statusInvalidDimension => .response [0x01, 0, 0, 0, 0]
  | .statusInvalidQuality => .response [0x02, 0, 0, 0, 0]
  | .statusMalformedStripLength => .response [0x03, 0, 0, 0, 0]
  | .statusRowOverflow => .response [0x04, 0, 0, 0, 0]
  | .statusIncompleteImage => .response [0x05, 0, 0, 0, 0]
  | .statusEncoderFinished => .response [0x06, 0, 0, 0, 0]
  | .statusInvalidColorType => .response [0x07, 0, 0, 0, 0]
  | .statusNotConstructed => .response [0x08, 0, 0, 0, 0]
  | .statusIllegalCommand => .response [0x09, 0, 0, 0, 0]
  | .cvtLuma p0 => .color 0x00 [p0]
  | .cvtRgb p0 p1 p2 => .color 0x01 [p0, p1, p2]
  | .cvtRgba p0 p1 p2 p3 => .color 0x02 [p0, p1, p2, p3]
  | .cvtBgr p0 p1 p2 => .color 0x03 [p0, p1, p2]
  | .cvtBgra p0 p1 p2 p3 => .color 0x04 [p0, p1, p2, p3]
  | .cvtYcbcr p0 p1 p2 => .color 0x05 [p0, p1, p2]
  | .cvtCmyk p0 p1 p2 p3 => .color 0x06 [p0, p1, p2, p3]
  | .cvtCmykAsYcck p0 p1 p2 p3 => .color 0x07 [p0, p1, p2, p3]
  | .cvtYcck p0 p1 p2 p3 => .color 0x08 [p0, p1, p2, p3]
  | .reservedColor09 => .color 0x09 []
  | .reservedColor0A low => .color (0x05#7 ++ low) []
  | .reservedColor0C low => .color (0x03#6 ++ low) []
  | .reservedColor10 low => .color (0x1#4 ++ low) []
  | .reservedColor20 low => .color (0x1#3 ++ low) []
  | .reservedColor40 low => .color (0x1#2 ++ low) []
  | .reservedColor80 low => .color (0x1#1 ++ low) []
  | .writeSoi => .segment [0xFF, 0xD8]
  | .writeApp0 => .segment [0xFF, 0xE0]
  | .writeApp14 => .segment [0xFF, 0xEE]
  | .writeDqt t => .segment [0xFF, 0xDB, 0x00, 0x43, BitVec.ofNat 8 t.val]
  | .writeSof0 => .segment [0xFF, 0xC0]
  | .writeDht cls h =>
    .segment [0xFF, 0xC4, 0x00, if cls = 0 then 0x1F else 0xB5, BitVec.ofNat 8 (16 * cls.val + h.val)]
  | .writeSos => .segment [0xFF, 0xDA]
  | .writeEoi => .segment [0xFF, 0xD9]
  | .rgb2ycc _ _ _ => .internal
  | .convertRow _ _ => .internal
  | .appendRows _ _ => .internal
  | .band => .internal
  | .padBand => .internal
  | .qscale _ _ => .internal
  | .extract _ _ => .internal
  | .fdct1d _ _ => .internal
  | .fdct _ => .internal
  | .quant _ _ => .internal
  | .transform _ _ => .internal
  | .huffgen _ _ => .internal
  | .size _ => .internal
  | .mag _ _ => .internal
  | .encDc _ _ => .internal
  | .encAc _ _ => .internal
  | .encblk _ _ => .internal
  | .putbits _ _ => .internal
  | .emitEcs _ => .internal
  | .flush => .internal
  | .writeRaw _ => .internal
  | .writeHeader => .internal
  | .huffDc0_00 => .code .dc0 0b00 2
  | .huffDc0_01 => .code .dc0 0b010 3
  | .huffDc0_02 => .code .dc0 0b011 3
  | .huffDc0_03 => .code .dc0 0b100 3
  | .huffDc0_04 => .code .dc0 0b101 3
  | .huffDc0_05 => .code .dc0 0b110 3
  | .huffDc0_06 => .code .dc0 0b1110 4
  | .huffDc0_07 => .code .dc0 0b11110 5
  | .huffDc0_08 => .code .dc0 0b111110 6
  | .huffDc0_09 => .code .dc0 0b1111110 7
  | .huffDc0_0A => .code .dc0 0b11111110 8
  | .huffDc0_0B => .code .dc0 0b111111110 9
  | .huffAc0_01 => .code .ac0 0b00 2
  | .huffAc0_02 => .code .ac0 0b01 2
  | .huffAc0_03 => .code .ac0 0b100 3
  | .huffAc0_00 => .code .ac0 0b1010 4
  | .huffAc0_04 => .code .ac0 0b1011 4
  | .huffAc0_11 => .code .ac0 0b1100 4
  | .huffAc0_05 => .code .ac0 0b11010 5
  | .huffAc0_12 => .code .ac0 0b11011 5
  | .huffAc0_21 => .code .ac0 0b11100 5
  | .huffAc0_31 => .code .ac0 0b111010 6
  | .huffAc0_41 => .code .ac0 0b111011 6
  | .huffAc0_06 => .code .ac0 0b1111000 7
  | .huffAc0_13 => .code .ac0 0b1111001 7
  | .huffAc0_51 => .code .ac0 0b1111010 7
  | .huffAc0_61 => .code .ac0 0b1111011 7
  | .huffAc0_07 => .code .ac0 0b11111000 8
  | .huffAc0_22 => .code .ac0 0b11111001 8
  | .huffAc0_71 => .code .ac0 0b11111010 8
  | .huffAc0_14 => .code .ac0 0b111110110 9
  | .huffAc0_32 => .code .ac0 0b111110111 9
  | .huffAc0_81 => .code .ac0 0b111111000 9
  | .huffAc0_91 => .code .ac0 0b111111001 9
  | .huffAc0_A1 => .code .ac0 0b111111010 9
  | .huffAc0_08 => .code .ac0 0b1111110110 10
  | .huffAc0_23 => .code .ac0 0b1111110111 10
  | .huffAc0_42 => .code .ac0 0b1111111000 10
  | .huffAc0_B1 => .code .ac0 0b1111111001 10
  | .huffAc0_C1 => .code .ac0 0b1111111010 10
  | .huffAc0_15 => .code .ac0 0b11111110110 11
  | .huffAc0_52 => .code .ac0 0b11111110111 11
  | .huffAc0_D1 => .code .ac0 0b11111111000 11
  | .huffAc0_F0 => .code .ac0 0b11111111001 11
  | .huffAc0_24 => .code .ac0 0b111111110100 12
  | .huffAc0_33 => .code .ac0 0b111111110101 12
  | .huffAc0_62 => .code .ac0 0b111111110110 12
  | .huffAc0_72 => .code .ac0 0b111111110111 12
  | .huffAc0_82 => .code .ac0 0b111111111000000 15
  | .huffAc0_09 => .code .ac0 0b1111111110000010 16
  | .huffAc0_0A => .code .ac0 0b1111111110000011 16
  | .huffAc0_16 => .code .ac0 0b1111111110000100 16
  | .huffAc0_17 => .code .ac0 0b1111111110000101 16
  | .huffAc0_18 => .code .ac0 0b1111111110000110 16
  | .huffAc0_19 => .code .ac0 0b1111111110000111 16
  | .huffAc0_1A => .code .ac0 0b1111111110001000 16
  | .huffAc0_25 => .code .ac0 0b1111111110001001 16
  | .huffAc0_26 => .code .ac0 0b1111111110001010 16
  | .huffAc0_27 => .code .ac0 0b1111111110001011 16
  | .huffAc0_28 => .code .ac0 0b1111111110001100 16
  | .huffAc0_29 => .code .ac0 0b1111111110001101 16
  | .huffAc0_2A => .code .ac0 0b1111111110001110 16
  | .huffAc0_34 => .code .ac0 0b1111111110001111 16
  | .huffAc0_35 => .code .ac0 0b1111111110010000 16
  | .huffAc0_36 => .code .ac0 0b1111111110010001 16
  | .huffAc0_37 => .code .ac0 0b1111111110010010 16
  | .huffAc0_38 => .code .ac0 0b1111111110010011 16
  | .huffAc0_39 => .code .ac0 0b1111111110010100 16
  | .huffAc0_3A => .code .ac0 0b1111111110010101 16
  | .huffAc0_43 => .code .ac0 0b1111111110010110 16
  | .huffAc0_44 => .code .ac0 0b1111111110010111 16
  | .huffAc0_45 => .code .ac0 0b1111111110011000 16
  | .huffAc0_46 => .code .ac0 0b1111111110011001 16
  | .huffAc0_47 => .code .ac0 0b1111111110011010 16
  | .huffAc0_48 => .code .ac0 0b1111111110011011 16
  | .huffAc0_49 => .code .ac0 0b1111111110011100 16
  | .huffAc0_4A => .code .ac0 0b1111111110011101 16
  | .huffAc0_53 => .code .ac0 0b1111111110011110 16
  | .huffAc0_54 => .code .ac0 0b1111111110011111 16
  | .huffAc0_55 => .code .ac0 0b1111111110100000 16
  | .huffAc0_56 => .code .ac0 0b1111111110100001 16
  | .huffAc0_57 => .code .ac0 0b1111111110100010 16
  | .huffAc0_58 => .code .ac0 0b1111111110100011 16
  | .huffAc0_59 => .code .ac0 0b1111111110100100 16
  | .huffAc0_5A => .code .ac0 0b1111111110100101 16
  | .huffAc0_63 => .code .ac0 0b1111111110100110 16
  | .huffAc0_64 => .code .ac0 0b1111111110100111 16
  | .huffAc0_65 => .code .ac0 0b1111111110101000 16
  | .huffAc0_66 => .code .ac0 0b1111111110101001 16
  | .huffAc0_67 => .code .ac0 0b1111111110101010 16
  | .huffAc0_68 => .code .ac0 0b1111111110101011 16
  | .huffAc0_69 => .code .ac0 0b1111111110101100 16
  | .huffAc0_6A => .code .ac0 0b1111111110101101 16
  | .huffAc0_73 => .code .ac0 0b1111111110101110 16
  | .huffAc0_74 => .code .ac0 0b1111111110101111 16
  | .huffAc0_75 => .code .ac0 0b1111111110110000 16
  | .huffAc0_76 => .code .ac0 0b1111111110110001 16
  | .huffAc0_77 => .code .ac0 0b1111111110110010 16
  | .huffAc0_78 => .code .ac0 0b1111111110110011 16
  | .huffAc0_79 => .code .ac0 0b1111111110110100 16
  | .huffAc0_7A => .code .ac0 0b1111111110110101 16
  | .huffAc0_83 => .code .ac0 0b1111111110110110 16
  | .huffAc0_84 => .code .ac0 0b1111111110110111 16
  | .huffAc0_85 => .code .ac0 0b1111111110111000 16
  | .huffAc0_86 => .code .ac0 0b1111111110111001 16
  | .huffAc0_87 => .code .ac0 0b1111111110111010 16
  | .huffAc0_88 => .code .ac0 0b1111111110111011 16
  | .huffAc0_89 => .code .ac0 0b1111111110111100 16
  | .huffAc0_8A => .code .ac0 0b1111111110111101 16
  | .huffAc0_92 => .code .ac0 0b1111111110111110 16
  | .huffAc0_93 => .code .ac0 0b1111111110111111 16
  | .huffAc0_94 => .code .ac0 0b1111111111000000 16
  | .huffAc0_95 => .code .ac0 0b1111111111000001 16
  | .huffAc0_96 => .code .ac0 0b1111111111000010 16
  | .huffAc0_97 => .code .ac0 0b1111111111000011 16
  | .huffAc0_98 => .code .ac0 0b1111111111000100 16
  | .huffAc0_99 => .code .ac0 0b1111111111000101 16
  | .huffAc0_9A => .code .ac0 0b1111111111000110 16
  | .huffAc0_A2 => .code .ac0 0b1111111111000111 16
  | .huffAc0_A3 => .code .ac0 0b1111111111001000 16
  | .huffAc0_A4 => .code .ac0 0b1111111111001001 16
  | .huffAc0_A5 => .code .ac0 0b1111111111001010 16
  | .huffAc0_A6 => .code .ac0 0b1111111111001011 16
  | .huffAc0_A7 => .code .ac0 0b1111111111001100 16
  | .huffAc0_A8 => .code .ac0 0b1111111111001101 16
  | .huffAc0_A9 => .code .ac0 0b1111111111001110 16
  | .huffAc0_AA => .code .ac0 0b1111111111001111 16
  | .huffAc0_B2 => .code .ac0 0b1111111111010000 16
  | .huffAc0_B3 => .code .ac0 0b1111111111010001 16
  | .huffAc0_B4 => .code .ac0 0b1111111111010010 16
  | .huffAc0_B5 => .code .ac0 0b1111111111010011 16
  | .huffAc0_B6 => .code .ac0 0b1111111111010100 16
  | .huffAc0_B7 => .code .ac0 0b1111111111010101 16
  | .huffAc0_B8 => .code .ac0 0b1111111111010110 16
  | .huffAc0_B9 => .code .ac0 0b1111111111010111 16
  | .huffAc0_BA => .code .ac0 0b1111111111011000 16
  | .huffAc0_C2 => .code .ac0 0b1111111111011001 16
  | .huffAc0_C3 => .code .ac0 0b1111111111011010 16
  | .huffAc0_C4 => .code .ac0 0b1111111111011011 16
  | .huffAc0_C5 => .code .ac0 0b1111111111011100 16
  | .huffAc0_C6 => .code .ac0 0b1111111111011101 16
  | .huffAc0_C7 => .code .ac0 0b1111111111011110 16
  | .huffAc0_C8 => .code .ac0 0b1111111111011111 16
  | .huffAc0_C9 => .code .ac0 0b1111111111100000 16
  | .huffAc0_CA => .code .ac0 0b1111111111100001 16
  | .huffAc0_D2 => .code .ac0 0b1111111111100010 16
  | .huffAc0_D3 => .code .ac0 0b1111111111100011 16
  | .huffAc0_D4 => .code .ac0 0b1111111111100100 16
  | .huffAc0_D5 => .code .ac0 0b1111111111100101 16
  | .huffAc0_D6 => .code .ac0 0b1111111111100110 16
  | .huffAc0_D7 => .code .ac0 0b1111111111100111 16
  | .huffAc0_D8 => .code .ac0 0b1111111111101000 16
  | .huffAc0_D9 => .code .ac0 0b1111111111101001 16
  | .huffAc0_DA => .code .ac0 0b1111111111101010 16
  | .huffAc0_E1 => .code .ac0 0b1111111111101011 16
  | .huffAc0_E2 => .code .ac0 0b1111111111101100 16
  | .huffAc0_E3 => .code .ac0 0b1111111111101101 16
  | .huffAc0_E4 => .code .ac0 0b1111111111101110 16
  | .huffAc0_E5 => .code .ac0 0b1111111111101111 16
  | .huffAc0_E6 => .code .ac0 0b1111111111110000 16
  | .huffAc0_E7 => .code .ac0 0b1111111111110001 16
  | .huffAc0_E8 => .code .ac0 0b1111111111110010 16
  | .huffAc0_E9 => .code .ac0 0b1111111111110011 16
  | .huffAc0_EA => .code .ac0 0b1111111111110100 16
  | .huffAc0_F1 => .code .ac0 0b1111111111110101 16
  | .huffAc0_F2 => .code .ac0 0b1111111111110110 16
  | .huffAc0_F3 => .code .ac0 0b1111111111110111 16
  | .huffAc0_F4 => .code .ac0 0b1111111111111000 16
  | .huffAc0_F5 => .code .ac0 0b1111111111111001 16
  | .huffAc0_F6 => .code .ac0 0b1111111111111010 16
  | .huffAc0_F7 => .code .ac0 0b1111111111111011 16
  | .huffAc0_F8 => .code .ac0 0b1111111111111100 16
  | .huffAc0_F9 => .code .ac0 0b1111111111111101 16
  | .huffAc0_FA => .code .ac0 0b1111111111111110 16
  | .huffDc1_00 => .code .dc1 0b00 2
  | .huffDc1_01 => .code .dc1 0b01 2
  | .huffDc1_02 => .code .dc1 0b10 2
  | .huffDc1_03 => .code .dc1 0b110 3
  | .huffDc1_04 => .code .dc1 0b1110 4
  | .huffDc1_05 => .code .dc1 0b11110 5
  | .huffDc1_06 => .code .dc1 0b111110 6
  | .huffDc1_07 => .code .dc1 0b1111110 7
  | .huffDc1_08 => .code .dc1 0b11111110 8
  | .huffDc1_09 => .code .dc1 0b111111110 9
  | .huffDc1_0A => .code .dc1 0b1111111110 10
  | .huffDc1_0B => .code .dc1 0b11111111110 11
  | .huffAc1_00 => .code .ac1 0b00 2
  | .huffAc1_01 => .code .ac1 0b01 2
  | .huffAc1_02 => .code .ac1 0b100 3
  | .huffAc1_03 => .code .ac1 0b1010 4
  | .huffAc1_11 => .code .ac1 0b1011 4
  | .huffAc1_04 => .code .ac1 0b11000 5
  | .huffAc1_05 => .code .ac1 0b11001 5
  | .huffAc1_21 => .code .ac1 0b11010 5
  | .huffAc1_31 => .code .ac1 0b11011 5
  | .huffAc1_06 => .code .ac1 0b111000 6
  | .huffAc1_12 => .code .ac1 0b111001 6
  | .huffAc1_41 => .code .ac1 0b111010 6
  | .huffAc1_51 => .code .ac1 0b111011 6
  | .huffAc1_07 => .code .ac1 0b1111000 7
  | .huffAc1_61 => .code .ac1 0b1111001 7
  | .huffAc1_71 => .code .ac1 0b1111010 7
  | .huffAc1_13 => .code .ac1 0b11110110 8
  | .huffAc1_22 => .code .ac1 0b11110111 8
  | .huffAc1_32 => .code .ac1 0b11111000 8
  | .huffAc1_81 => .code .ac1 0b11111001 8
  | .huffAc1_08 => .code .ac1 0b111110100 9
  | .huffAc1_14 => .code .ac1 0b111110101 9
  | .huffAc1_42 => .code .ac1 0b111110110 9
  | .huffAc1_91 => .code .ac1 0b111110111 9
  | .huffAc1_A1 => .code .ac1 0b111111000 9
  | .huffAc1_B1 => .code .ac1 0b111111001 9
  | .huffAc1_C1 => .code .ac1 0b111111010 9
  | .huffAc1_09 => .code .ac1 0b1111110110 10
  | .huffAc1_23 => .code .ac1 0b1111110111 10
  | .huffAc1_33 => .code .ac1 0b1111111000 10
  | .huffAc1_52 => .code .ac1 0b1111111001 10
  | .huffAc1_F0 => .code .ac1 0b1111111010 10
  | .huffAc1_15 => .code .ac1 0b11111110110 11
  | .huffAc1_62 => .code .ac1 0b11111110111 11
  | .huffAc1_72 => .code .ac1 0b11111111000 11
  | .huffAc1_D1 => .code .ac1 0b11111111001 11
  | .huffAc1_0A => .code .ac1 0b111111110100 12
  | .huffAc1_16 => .code .ac1 0b111111110101 12
  | .huffAc1_24 => .code .ac1 0b111111110110 12
  | .huffAc1_34 => .code .ac1 0b111111110111 12
  | .huffAc1_E1 => .code .ac1 0b11111111100000 14
  | .huffAc1_25 => .code .ac1 0b111111111000010 15
  | .huffAc1_F1 => .code .ac1 0b111111111000011 15
  | .huffAc1_17 => .code .ac1 0b1111111110001000 16
  | .huffAc1_18 => .code .ac1 0b1111111110001001 16
  | .huffAc1_19 => .code .ac1 0b1111111110001010 16
  | .huffAc1_1A => .code .ac1 0b1111111110001011 16
  | .huffAc1_26 => .code .ac1 0b1111111110001100 16
  | .huffAc1_27 => .code .ac1 0b1111111110001101 16
  | .huffAc1_28 => .code .ac1 0b1111111110001110 16
  | .huffAc1_29 => .code .ac1 0b1111111110001111 16
  | .huffAc1_2A => .code .ac1 0b1111111110010000 16
  | .huffAc1_35 => .code .ac1 0b1111111110010001 16
  | .huffAc1_36 => .code .ac1 0b1111111110010010 16
  | .huffAc1_37 => .code .ac1 0b1111111110010011 16
  | .huffAc1_38 => .code .ac1 0b1111111110010100 16
  | .huffAc1_39 => .code .ac1 0b1111111110010101 16
  | .huffAc1_3A => .code .ac1 0b1111111110010110 16
  | .huffAc1_43 => .code .ac1 0b1111111110010111 16
  | .huffAc1_44 => .code .ac1 0b1111111110011000 16
  | .huffAc1_45 => .code .ac1 0b1111111110011001 16
  | .huffAc1_46 => .code .ac1 0b1111111110011010 16
  | .huffAc1_47 => .code .ac1 0b1111111110011011 16
  | .huffAc1_48 => .code .ac1 0b1111111110011100 16
  | .huffAc1_49 => .code .ac1 0b1111111110011101 16
  | .huffAc1_4A => .code .ac1 0b1111111110011110 16
  | .huffAc1_53 => .code .ac1 0b1111111110011111 16
  | .huffAc1_54 => .code .ac1 0b1111111110100000 16
  | .huffAc1_55 => .code .ac1 0b1111111110100001 16
  | .huffAc1_56 => .code .ac1 0b1111111110100010 16
  | .huffAc1_57 => .code .ac1 0b1111111110100011 16
  | .huffAc1_58 => .code .ac1 0b1111111110100100 16
  | .huffAc1_59 => .code .ac1 0b1111111110100101 16
  | .huffAc1_5A => .code .ac1 0b1111111110100110 16
  | .huffAc1_63 => .code .ac1 0b1111111110100111 16
  | .huffAc1_64 => .code .ac1 0b1111111110101000 16
  | .huffAc1_65 => .code .ac1 0b1111111110101001 16
  | .huffAc1_66 => .code .ac1 0b1111111110101010 16
  | .huffAc1_67 => .code .ac1 0b1111111110101011 16
  | .huffAc1_68 => .code .ac1 0b1111111110101100 16
  | .huffAc1_69 => .code .ac1 0b1111111110101101 16
  | .huffAc1_6A => .code .ac1 0b1111111110101110 16
  | .huffAc1_73 => .code .ac1 0b1111111110101111 16
  | .huffAc1_74 => .code .ac1 0b1111111110110000 16
  | .huffAc1_75 => .code .ac1 0b1111111110110001 16
  | .huffAc1_76 => .code .ac1 0b1111111110110010 16
  | .huffAc1_77 => .code .ac1 0b1111111110110011 16
  | .huffAc1_78 => .code .ac1 0b1111111110110100 16
  | .huffAc1_79 => .code .ac1 0b1111111110110101 16
  | .huffAc1_7A => .code .ac1 0b1111111110110110 16
  | .huffAc1_82 => .code .ac1 0b1111111110110111 16
  | .huffAc1_83 => .code .ac1 0b1111111110111000 16
  | .huffAc1_84 => .code .ac1 0b1111111110111001 16
  | .huffAc1_85 => .code .ac1 0b1111111110111010 16
  | .huffAc1_86 => .code .ac1 0b1111111110111011 16
  | .huffAc1_87 => .code .ac1 0b1111111110111100 16
  | .huffAc1_88 => .code .ac1 0b1111111110111101 16
  | .huffAc1_89 => .code .ac1 0b1111111110111110 16
  | .huffAc1_8A => .code .ac1 0b1111111110111111 16
  | .huffAc1_92 => .code .ac1 0b1111111111000000 16
  | .huffAc1_93 => .code .ac1 0b1111111111000001 16
  | .huffAc1_94 => .code .ac1 0b1111111111000010 16
  | .huffAc1_95 => .code .ac1 0b1111111111000011 16
  | .huffAc1_96 => .code .ac1 0b1111111111000100 16
  | .huffAc1_97 => .code .ac1 0b1111111111000101 16
  | .huffAc1_98 => .code .ac1 0b1111111111000110 16
  | .huffAc1_99 => .code .ac1 0b1111111111000111 16
  | .huffAc1_9A => .code .ac1 0b1111111111001000 16
  | .huffAc1_A2 => .code .ac1 0b1111111111001001 16
  | .huffAc1_A3 => .code .ac1 0b1111111111001010 16
  | .huffAc1_A4 => .code .ac1 0b1111111111001011 16
  | .huffAc1_A5 => .code .ac1 0b1111111111001100 16
  | .huffAc1_A6 => .code .ac1 0b1111111111001101 16
  | .huffAc1_A7 => .code .ac1 0b1111111111001110 16
  | .huffAc1_A8 => .code .ac1 0b1111111111001111 16
  | .huffAc1_A9 => .code .ac1 0b1111111111010000 16
  | .huffAc1_AA => .code .ac1 0b1111111111010001 16
  | .huffAc1_B2 => .code .ac1 0b1111111111010010 16
  | .huffAc1_B3 => .code .ac1 0b1111111111010011 16
  | .huffAc1_B4 => .code .ac1 0b1111111111010100 16
  | .huffAc1_B5 => .code .ac1 0b1111111111010101 16
  | .huffAc1_B6 => .code .ac1 0b1111111111010110 16
  | .huffAc1_B7 => .code .ac1 0b1111111111010111 16
  | .huffAc1_B8 => .code .ac1 0b1111111111011000 16
  | .huffAc1_B9 => .code .ac1 0b1111111111011001 16
  | .huffAc1_BA => .code .ac1 0b1111111111011010 16
  | .huffAc1_C2 => .code .ac1 0b1111111111011011 16
  | .huffAc1_C3 => .code .ac1 0b1111111111011100 16
  | .huffAc1_C4 => .code .ac1 0b1111111111011101 16
  | .huffAc1_C5 => .code .ac1 0b1111111111011110 16
  | .huffAc1_C6 => .code .ac1 0b1111111111011111 16
  | .huffAc1_C7 => .code .ac1 0b1111111111100000 16
  | .huffAc1_C8 => .code .ac1 0b1111111111100001 16
  | .huffAc1_C9 => .code .ac1 0b1111111111100010 16
  | .huffAc1_CA => .code .ac1 0b1111111111100011 16
  | .huffAc1_D2 => .code .ac1 0b1111111111100100 16
  | .huffAc1_D3 => .code .ac1 0b1111111111100101 16
  | .huffAc1_D4 => .code .ac1 0b1111111111100110 16
  | .huffAc1_D5 => .code .ac1 0b1111111111100111 16
  | .huffAc1_D6 => .code .ac1 0b1111111111101000 16
  | .huffAc1_D7 => .code .ac1 0b1111111111101001 16
  | .huffAc1_D8 => .code .ac1 0b1111111111101010 16
  | .huffAc1_D9 => .code .ac1 0b1111111111101011 16
  | .huffAc1_DA => .code .ac1 0b1111111111101100 16
  | .huffAc1_E2 => .code .ac1 0b1111111111101101 16
  | .huffAc1_E3 => .code .ac1 0b1111111111101110 16
  | .huffAc1_E4 => .code .ac1 0b1111111111101111 16
  | .huffAc1_E5 => .code .ac1 0b1111111111110000 16
  | .huffAc1_E6 => .code .ac1 0b1111111111110001 16
  | .huffAc1_E7 => .code .ac1 0b1111111111110010 16
  | .huffAc1_E8 => .code .ac1 0b1111111111110011 16
  | .huffAc1_E9 => .code .ac1 0b1111111111110100 16
  | .huffAc1_EA => .code .ac1 0b1111111111110101 16
  | .huffAc1_F2 => .code .ac1 0b1111111111110110 16
  | .huffAc1_F3 => .code .ac1 0b1111111111110111 16
  | .huffAc1_F4 => .code .ac1 0b1111111111111000 16
  | .huffAc1_F5 => .code .ac1 0b1111111111111001 16
  | .huffAc1_F6 => .code .ac1 0b1111111111111010 16
  | .huffAc1_F7 => .code .ac1 0b1111111111111011 16
  | .huffAc1_F8 => .code .ac1 0b1111111111111100 16
  | .huffAc1_F9 => .code .ac1 0b1111111111111101 16
  | .huffAc1_FA => .code .ac1 0b1111111111111110 16

/-- The reader of every code space: the instruction whose words these are, whole. -/
def decodeAny : Encoding → Option Instr
  | .packet bytes =>
    match decode bytes with
    | .packet i [] => some i
    | .packet _ (_ :: _) => none
    | .notWhole => none
    | .idle => none
  | .response bytes => decodeResponse bytes
  | .color ct pixel => decodeColor ct pixel
  | .segment bytes => decodeSegment bytes
  | .code t value length =>
    match decodeHuff t (bitsMsb value length) with
    | some (i, []) => some i
    | some (_, _ :: _) => none
    | none => none
  | .internal => none

end Sys2Proof
end

