-- ==== Sys2Proof/Machine/State.lean ====
section
/-! DEFINITION. The state of the core (R20 to R34), the model's three interface fields, the reasons a step
can stop, and the state at power-on (R39, R330). -/

namespace Sys2Proof.Machine

/-- `LIFECYCLE`, the one status register: Unconfigured 0, Fresh 1, Active 2, Finished 3 (R21). -/
inductive Lifecycle where
  | unconfigured | fresh | active | finished
  deriving DecidableEq, Repr

/-- The nine colour types, codes 0 to 8 in this order (R24, R94). -/
inductive ColorType where
  | luma | rgb | rgba | bgr | bgra | ycbcr | cmyk | cmykAsYcck | ycck
  deriving DecidableEq, Repr

/-- The status codes, 0 to 9 in this order (R93). -/
inductive Status where
  | ok | invalidDimension | invalidQuality | malformedStripLength | rowOverflow | incompleteImage
  | encoderFinished | invalidColorType | notConstructed | illegalCommand
  deriving DecidableEq, Repr

/-- A response: a status and the bytes returned (R92). -/
structure Response where
  status : Status
  bytes  : List Byte
  deriving DecidableEq, Repr

/-- A Huffman table (R29): the counts `bits[1..16]`, the symbols `vals`, and for each symbol 0 to 255 its
code and its length in bits, 0 for a symbol with no code. -/
structure HuffTable where
  bits : List Nat
  vals : List Byte
  code : List Nat
  size : List Nat
  deriving DecidableEq, Repr

/-- The table that codes no symbol. -/
def HuffTable.blank : HuffTable :=
  { bits := List.replicate 16 0, vals := [], code := List.replicate 256 0, size := List.replicate 256 0 }

/-- `PRED[0..3]`: the predictors of components Y, Cb, Cr, K (R32). -/
structure Pred where
  y  : Int
  cb : Int
  cr : Int
  k  : Int
  deriving DecidableEq, Repr

/-- One row of converted samples: a plane of WIDTH samples for each component (R30). -/
abbrev Row := List (List Byte)

/-- What an internal operation run by itself gives back (R321, log 4). -/
inductive Result where
  /-- Nothing yet. -/
  | empty
  /-- The samples of one pixel (RGB2YCC, CVT.*). -/
  | samples (s : List Byte)
  /-- A converted row (CONVERT_ROW). -/
  | row (r : Row)
  /-- A quantisation table (QSCALE). -/
  | table (t : List Byte)
  /-- Integers (EXTRACT, FDCT1D, FDCT, QUANT, TRANSFORM, SIZE). -/
  | numbers (xs : List Int)
  /-- Bits, first sent first (MAG). -/
  | bits (b : List Bool)
  /-- Codes and sizes by symbol (HUFFGEN). -/
  | codes (code size : List Nat)
  deriving DecidableEq, Repr

/-- The state of the core: the items of R20, and three fields of the model. -/
structure State where
  /-- LIFECYCLE (R21). -/
  lifecycle : Lifecycle
  /-- WIDTH (R22). -/
  width : Half
  /-- HEIGHT (R23). -/
  height : Half
  /-- COLOR_TYPE (R24). -/
  colorType : ColorType
  /-- QUALITY (R25). -/
  quality : BitVec 7
  /-- QT[0], 64 entries in natural order (R28). -/
  qtLuma : List Byte
  /-- QT[1] (R28). -/
  qtChroma : List Byte
  /-- HT_DC[0] (R29). -/
  htDcLuma : HuffTable
  /-- HT_AC[0] (R29). -/
  htAcLuma : HuffTable
  /-- HT_DC[1] (R29). -/
  htDcChroma : HuffTable
  /-- HT_AC[1] (R29). -/
  htAcChroma : HuffTable
  /-- PENDING, oldest row first; its length is PENDING_COUNT (R30). -/
  pending : List Row
  /-- ROWS_RECEIVED (R31). -/
  rowsReceived : Nat
  /-- PRED[0..3] (R32). -/
  pred : Pred
  /-- BITBUF, oldest bit first; its length is BITCNT (R33). -/
  bitbuf : List Bool
  /-- OUT, the output accumulator (R34). -/
  out : List Byte
  /-- MODEL (log 1): the bytes of the packets the host has sent and the core has not yet taken (R16, R90). -/
  input : List Byte
  /-- MODEL (log 3): the last response given (R92), none before the first. -/
  response : Option Response
  /-- MODEL (log 4): what the last internal operation run by itself gave back (R321); no command reads or writes it. -/
  result : Result
  deriving DecidableEq, Repr

/-- The model stops here because a statement the rules `assert` or require does not hold (R14: never a
behaviour of the hardware). No command raises one; each is raised only when an internal operation is run by
itself in a state where its rule asserts or requires another, or would read a sample or byte that does not
exist (R60). All are safe (log 8). -/
inductive Fault where
  /-- Raised by BAND when PENDING does not hold 8 rows (R192 asserts it). Safe. -/
  | bandNotFull
  /-- Raised by PAD_BAND when PENDING does not hold 1 to 7 rows (R194 asserts it). Safe. -/
  | padBandCount
  /-- Raised by EXTRACT when PENDING does not hold 8 rows (R207 requires them) or has no component `c` (R60: no
  such sample exists). Safe. -/
  | noSuchBlock
  /-- Raised by FLUSH when bits are left (R262 asserts BITCNT = 0; it holds when BITCNT was at most 7). Safe. -/
  | bitsLeft
  /-- Raised by CONVERT_ROW and APPEND_ROWS when the strip ends before the last row they read (R60, R181,
  R191). Safe. -/
  | stripEnds
  deriving DecidableEq, Repr

/-- The model gives no next state here. All are safe: nothing is claimed. -/
inductive Refusal where
  /-- Raised by `exec` for an instruction that has no meaning yet. Safe. -/
  | notModelled (mnemonic : String)
  /-- Raised by `step` when the host's bytes end before the packet they begin does: not a command (R96,
  U2: refuse; log 2). Safe. -/
  | packetNotWhole
  deriving DecidableEq, Repr

/-- The state at power-on (R39, R330): LIFECYCLE is Unconfigured. Of every other item the rules say that it
has no value; the values here are the model's (log 5). -/
def State.reset : State where
  lifecycle := .unconfigured
  width := 0
  height := 0
  colorType := .luma
  quality := 0
  qtLuma := List.replicate 64 0
  qtChroma := List.replicate 64 0
  htDcLuma := .blank
  htAcLuma := .blank
  htDcChroma := .blank
  htAcChroma := .blank
  pending := []
  rowsReceived := 0
  pred := { y := 0, cb := 0, cr := 0, k := 0 }
  bitbuf := []
  out := []
  input := []
  response := none
  result := .empty

/-! ## Updates of one field -/

/-- `s` with `lifecycle` replaced. -/
def State.withLifecycle (s : State) (x : Lifecycle) : State := { s with lifecycle := x }

/-- `s` with `pending` replaced. -/
def State.withPending (s : State) (x : List Row) : State := { s with pending := x }

/-- `s` with `rowsReceived` replaced. -/
def State.withRowsReceived (s : State) (x : Nat) : State := { s with rowsReceived := x }

/-- `s` with `pred` replaced. -/
def State.withPred (s : State) (x : Pred) : State := { s with pred := x }

/-- `s` with `bitbuf` replaced. -/
def State.withBitbuf (s : State) (x : List Bool) : State := { s with bitbuf := x }

/-- `s` with `out` replaced. -/
def State.withOut (s : State) (x : List Byte) : State := { s with out := x }

/-- `s` with `input` replaced. -/
def State.withInput (s : State) (x : List Byte) : State := { s with input := x }

/-- `s` with `response` replaced. -/
def State.withResponse (s : State) (x : Option Response) : State := { s with response := x }

/-- `s` with `result` replaced. -/
def State.withResult (s : State) (x : Result) : State := { s with result := x }

end Sys2Proof.Machine
end

