-- ==== Sys2Proof/Machine/Operands.lean ====
section
/-! DEFINITION. Operands: the arithmetic of R11, colour-type codes (R94), the values derived from the
configuration (R27), the checks of the configuration operands (R298), and reads of the strip and of PENDING
(R14). -/

namespace Sys2Proof.Machine

/-! ## Arithmetic (R11) -/

/-- `a >> n` on an integer: the quotient by 2^n rounded toward minus infinity (R11). -/
def asr (a : Int) (n : Nat) : Int := a / ((2 ^ n : Nat) : Int)

/-- `ceil8(a)` (R11). -/
def ceil8 (a : Nat) : Nat := (a + 7) / 8

/-! ## Colour types (R24, R27, R94) -/

/-- The code of a colour type (R94). -/
def ColorType.code : ColorType → Byte
  | .luma => 0 | .rgb => 1 | .rgba => 2 | .bgr => 3 | .bgra => 4
  | .ycbcr => 5 | .cmyk => 6 | .cmykAsYcck => 7 | .ycck => 8

/-- The colour type of a `color_type` operand; none for the reserved values 9 to 255 (R94, R95). -/
def ColorType.ofCode (b : Byte) : Option ColorType :=
  if b = 0 then some .luma
  else if b = 1 then some .rgb
  else if b = 2 then some .rgba
  else if b = 3 then some .bgr
  else if b = 4 then some .bgra
  else if b = 5 then some .ycbcr
  else if b = 6 then some .cmyk
  else if b = 7 then some .cmykAsYcck
  else if b = 8 then some .ycck
  else none

/-- `BPP`, bytes per pixel (R27). -/
def ColorType.bpp : ColorType → Nat
  | .luma => 1
  | .rgb | .bgr | .ycbcr => 3
  | .rgba | .bgra | .cmyk | .cmykAsYcck | .ycck => 4

/-- `NCOMP`, components of the frame (R27). -/
def ColorType.ncomp : ColorType → Nat
  | .luma => 1
  | .rgb | .rgba | .bgr | .bgra | .ycbcr => 3
  | .cmyk | .cmykAsYcck | .ycck => 4

/-- The components 0 to `n - 1`, in order (R27). -/
def comps (n : Nat) : List (Fin 4) := [0, 1, 2, 3].take n

/-- `TQ[c]`, the quantisation table of component `c`: 0, 1, 1, 0 (R27). -/
def tq (c : Fin 4) : Fin 2 := if c = 1 ∨ c = 2 then 1 else 0

/-- `TD[c]`, the DC Huffman table of component `c`: 0, 1, 1, 0 (R27, R240). -/
def td (c : Fin 4) : Fin 2 := if c = 1 ∨ c = 2 then 1 else 0

/-- `TA[c]`, the AC Huffman table of component `c`: 0, 1, 1, 0 (R27, R240). -/
def ta (c : Fin 4) : Fin 2 := if c = 1 ∨ c = 2 then 1 else 0

/-- `CID[c]`, the identifier of component `c` in the stream (R27). -/
def cid (c : Fin 4) : Byte := BitVec.ofNat 8 (c.val + 1)

/-! ## Values derived from the configuration registers (R27) -/

/-- `STRIDE`, bytes of an input row. -/
def State.stride (s : State) : Nat := s.width.toNat * s.colorType.bpp

/-- `BLOCKS_W`, blocks (and MCUs) of a band. -/
def State.blocksW (s : State) : Nat := ceil8 s.width.toNat

/-- `BANDS`, bands of the image. -/
def State.bands (s : State) : Nat := ceil8 s.height.toNat

/-- `NCOMP` of the configured colour type. -/
def State.ncomp (s : State) : Nat := s.colorType.ncomp

/-- `QT[t]` (R28). -/
def State.qt (s : State) (t : Fin 2) : List Byte := if t = 0 then s.qtLuma else s.qtChroma

/-- `HT_DC[h]` (R29). -/
def State.htDc (s : State) (h : Fin 2) : HuffTable := if h = 0 then s.htDcLuma else s.htDcChroma

/-- `HT_AC[h]` (R29). -/
def State.htAc (s : State) (h : Fin 2) : HuffTable := if h = 0 then s.htAcLuma else s.htAcChroma

/-- `HT_DC[h]` for class 0, `HT_AC[h]` for class 1 (R269). -/
def State.ht (s : State) (cls h : Fin 2) : HuffTable := if cls = 0 then s.htDc h else s.htAc h

/-! ## The predictors (R32) -/

/-- `PRED[c]`. -/
def Pred.get (p : Pred) (c : Fin 4) : Int :=
  if c = 0 then p.y else if c = 1 then p.cb else if c = 2 then p.cr else p.k

/-- `PRED[c] <- v`. -/
def Pred.set (p : Pred) (c : Fin 4) (v : Int) : Pred :=
  if c = 0 then { p with y := v } else if c = 1 then { p with cb := v }
  else if c = 2 then { p with cr := v } else { p with k := v }

/-! ## Checks of the configuration operands -/

/-- The tests of CONSTRUCT and HEADER_BYTES in their order, the first that fails giving the status (R141,
R145, R298): dimension, quality, colour type. -/
def checkConfig (width height : Quad) (colorType quality : Byte) : Except Status ColorType :=
  if width.toNat = 0 ∨ height.toNat = 0 ∨ width.toNat > Config.maxDimension ∨ height.toNat > Config.maxDimension then
    .error .invalidDimension
  else if quality.toNat < 1 ∨ quality.toNat > Config.maxQuality then .error .invalidQuality
  else match ColorType.ofCode colorType with
    | none => .error .invalidColorType
    | some ct => .ok ct

/-! ## Reads (R14) -/

/-- Byte `j` of a sequence; past its end a free value (log 11). -/
def byteAt (p : List Byte) (j : Nat) : Byte := p.getD j (Config.absentByte j)

/-- Entry `i` of a block, a coefficient list or a row; past its end a free value (log 9). -/
def numberAt (xs : List Int) (i : Nat) : Int := xs.getD i (Config.absentNumber xs i)

/-- Entry `i` of a base table or of the counts of a Huffman specification; past its end a free value (log 9). -/
def countAt (xs : List Nat) (i : Nat) : Nat := xs.getD i (Config.absentCount xs i)

/-- The `n` entries an operation reads of a list of numbers. -/
def numbersOf (n : Nat) (xs : List Int) : List Int := (List.range n).map (numberAt xs)

/-- The `n` entries an operation reads of a list of counts. -/
def countsOf (n : Nat) (xs : List Nat) : List Nat := (List.range n).map (countAt xs)

/-- `MemRead(STRIP, off, n)`: the `n` bytes at byte offset `off` of the strip. -/
def memReadStrip (strip : List Byte) (off n : Nat) : List Byte := (strip.drop off).take n

/-- `MemRead(PEND, r, c, x)`: the sample of pending row `r`, component `c`, column `x`; where there is none a
free value (log 11). -/
def memReadPend (pending : List Row) (r c x : Nat) : Byte :=
  ((pending.getD r []).getD c []).getD x (Config.absentSample r c x)

end Sys2Proof.Machine
end

