-- ==== Sys2Proof/Machine/Flags.lean ====
section
/-! DEFINITION. LIFECYCLE, the only flag register (R21, R305): its codes, and the status a lifecycle answers
a command with (R140). The core has no carry, zero, overflow, interrupt or error flag. -/

namespace Sys2Proof.Machine

/-- The 2-bit code of a lifecycle (R21). -/
def Lifecycle.code : Lifecycle → BitVec 2
  | .unconfigured => 0
  | .fresh => 1
  | .active => 2
  | .finished => 3

/-- What ENCODE_STRIP and FINISH are refused with for the lifecycle alone: NotConstructed in Unconfigured,
EncoderFinished in Finished, nothing in Fresh and Active (R140, R142, R143, R298). -/
def State.encodeGate (s : State) : Option Status :=
  match s.lifecycle with
  | .unconfigured => some .notConstructed
  | .fresh => none
  | .active => none
  | .finished => some .encoderFinished

/-- What TAKE_OUTPUT is refused with for the lifecycle: NotConstructed in Unconfigured only (R140, R144). -/
def State.takeGate (s : State) : Option Status :=
  match s.lifecycle with
  | .unconfigured => some .notConstructed
  | .fresh => none
  | .active => none
  | .finished => none

end Sys2Proof.Machine
end

