-- ==== Sys2Proof/Machine/Ops.lean ====
section
/-! DEFINITION. The named operations on state (R14): responses and the rejection of a command (the one way
an exception is taken, R290, R300), the drain of OUT, and the bit and byte writing operations on PRED, BITBUF
and OUT (R260 to R263). There is no return from an exception (R301). -/

namespace Sys2Proof.Machine

/-! ## Responses and exceptions -/

/-- TAKING AN EXCEPTION, `raise E`: the command ends with status `st` and no bytes, and no other state
changes (R14, R290, R300). Nothing is saved and control goes nowhere (R303). -/
def State.reject (s : State) (st : Status) : State := s.withResponse (some { status := st, bytes := [] })

/-- `return (Ok, b)` (R14). -/
def State.respond (s : State) (bytes : List Byte) : State :=
  s.withResponse (some { status := .ok, bytes := bytes })

/-- `return (Ok, drain(OUT))`: the whole content of OUT is returned and OUT is empty after (R14, R34, R68). -/
def State.respondDrain (s : State) : State := (s.respond s.out).withOut []

/-- The code of a status (R93). -/
def Status.code : Status → Byte
  | .ok => 0 | .invalidDimension => 1 | .invalidQuality => 2 | .malformedStripLength => 3
  | .rowOverflow => 4 | .incompleteImage => 5 | .encoderFinished => 6 | .invalidColorType => 7
  | .notConstructed => 8 | .illegalCommand => 9

/-- A response's canonical serialisation: status, count, bytes (R92, log 16). -/
def Response.serialize (r : Response) : List Byte := r.status.code :: (countField r.bytes.length ++ r.bytes)

/-! ## The registers the coder and the writer share -/

/-- The registers the Entropy Coder and the Bitstream Writer write: PRED, BITBUF, OUT. Their operations are
functions on these three, so that they can change nothing else. -/
structure Coder where
  pred   : Pred
  bitbuf : List Bool
  out    : List Byte
  deriving DecidableEq, Repr

/-- PRED, BITBUF and OUT of a state. -/
def State.coder (s : State) : Coder := { pred := s.pred, bitbuf := s.bitbuf, out := s.out }

/-- A state with PRED, BITBUF and OUT replaced. -/
def State.withCoder (s : State) (k : Coder) : State :=
  { s with pred := k.pred, bitbuf := k.bitbuf, out := k.out }

/-- WRITE_RAW(bytes), `MemWrite(OUT, n, bytes)`: appended as they are, nothing stuffed (R263, R14). -/
def Coder.writeRaw (k : Coder) (bytes : List Byte) : Coder := { k with out := k.out ++ bytes }

/-- EMIT_ECS(b): one byte of coded data; `FF` is followed by a stuffed `00` (R261). -/
def Coder.emitEcs (k : Coder) (b : Byte) : Coder :=
  if b = 0xFF#8 then k.writeRaw [0xFF#8, 0x00#8] else k.writeRaw [b]

/-- The byte whose bits, bit 7 first, are the eight of BITBUF (R260). -/
def byteOfBits (bits : List Bool) : Byte := BitVec.ofNat 8 (bits.foldl (fun a b => 2 * a + b.toNat) 0)

/-- One step of PUTBITS: append a bit to BITBUF; the eighth bit completes a byte, which is emitted (R260). -/
def Coder.putBit (k : Coder) (b : Bool) : Coder :=
  if k.bitbuf.length + 1 = 8 then
    { k.emitEcs (byteOfBits (k.bitbuf ++ [b])) with bitbuf := [] }
  else { k with bitbuf := k.bitbuf ++ [b] }

/-- PUTBITS(v, n): the `n` low bits of `v`, most significant first (R260). -/
def Coder.putBits (k : Coder) (v n : Nat) : Coder := (bitsMsb v n).foldl Coder.putBit k

/-- FLUSH(): 1 bits complete the last byte; nothing on a byte boundary (R262). -/
def Coder.flush (k : Coder) : Coder :=
  if k.bitbuf.length > 0 then k.putBits (2 ^ (8 - k.bitbuf.length) - 1) (8 - k.bitbuf.length) else k

/-- WRITE_RAW on the whole state. -/
def State.writeRaw (s : State) (bytes : List Byte) : State := s.withCoder (s.coder.writeRaw bytes)

/-- PUTBITS on the whole state. -/
def State.putBits (s : State) (v n : Nat) : State := s.withCoder (s.coder.putBits v n)

/-- FLUSH on the whole state. -/
def State.flush (s : State) : State := s.withCoder s.coder.flush

end Sys2Proof.Machine
end

