-- ==== Sys2Proof/Machine/Color.lean ====
section
/-! DEFINITION. The Color Converter (R171 to R182): RGB2YCC, the nine CVT operations, CONVERT_ROW, and the
reserved colour types (R297). -/

namespace Sys2Proof.Machine

/-! ## The transforms -/

/-- The three sums of RGB2YCC shifted right by 16 (R171), as integers. -/
def rgb2yccInt (r g b : Int) : Int × Int × Int :=
  (asr (19595 * r + 38470 * g + 7471 * b + 32768) 16,
   asr (-11059 * r - 21709 * g + 32768 * b + 8388608 + 32767) 16,
   asr (32768 * r - 27439 * g - 5329 * b + 8388608 + 32767) 16)

/-- RGB2YCC(R, G, B): the samples Y, Cb, Cr (R171). -/
def rgb2ycc (r g b : Byte) : List Byte :=
  let ycc := rgb2yccInt r.toNat g.toNat b.toNat
  [BitVec.ofInt 8 ycc.1, BitVec.ofInt 8 ycc.2.1, BitVec.ofInt 8 ycc.2.2]

/-- `255 - p` (R178: "inverted RGB"). -/
def invert (p : Byte) : Byte := 255 - p

/-- CVT.LUMA (R172). -/
def cvtLuma (p0 : Byte) : List Byte := [p0]

/-- CVT.RGB (R173). -/
def cvtRgb (p0 p1 p2 : Byte) : List Byte := rgb2ycc p0 p1 p2

/-- CVT.RGBA (R174): `p3`, alpha, is not read. -/
def cvtRgba (p0 p1 p2 _p3 : Byte) : List Byte := rgb2ycc p0 p1 p2

/-- CVT.BGR (R175). -/
def cvtBgr (p0 p1 p2 : Byte) : List Byte := rgb2ycc p2 p1 p0

/-- CVT.BGRA (R176): `p3`, alpha, is not read. -/
def cvtBgra (p0 p1 p2 _p3 : Byte) : List Byte := rgb2ycc p2 p1 p0

/-- CVT.YCBCR (R177). -/
def cvtYcbcr (p0 p1 p2 : Byte) : List Byte := [p0, p1, p2]

/-- CVT.CMYK (R178): C, M, Y inverted and converted, K kept. -/
def cvtCmyk (p0 p1 p2 p3 : Byte) : List Byte := rgb2ycc (invert p0) (invert p1) (invert p2) ++ [p3]

/-- CVT.CMYKASYCCK (R179): the same function as CVT.CMYK. -/
def cvtCmykAsYcck (p0 p1 p2 p3 : Byte) : List Byte := rgb2ycc (invert p0) (invert p1) (invert p2) ++ [p3]

/-- CVT.YCCK (R180). -/
def cvtYcck (p0 p1 p2 p3 : Byte) : List Byte := [p0, p1, p2, p3]

/-- `CVT.<COLOR_TYPE>(p)`: the samples of the pixel whose bytes are `p` (R181). -/
def cvt (ct : ColorType) (p : List Byte) : List Byte :=
  match ct with
  | .luma => cvtLuma (byteAt p 0)
  | .rgb => cvtRgb (byteAt p 0) (byteAt p 1) (byteAt p 2)
  | .rgba => cvtRgba (byteAt p 0) (byteAt p 1) (byteAt p 2) (byteAt p 3)
  | .bgr => cvtBgr (byteAt p 0) (byteAt p 1) (byteAt p 2)
  | .bgra => cvtBgra (byteAt p 0) (byteAt p 1) (byteAt p 2) (byteAt p 3)
  | .ycbcr => cvtYcbcr (byteAt p 0) (byteAt p 1) (byteAt p 2)
  | .cmyk => cvtCmyk (byteAt p 0) (byteAt p 1) (byteAt p 2) (byteAt p 3)
  | .cmykAsYcck => cvtCmykAsYcck (byteAt p 0) (byteAt p 1) (byteAt p 2) (byteAt p 3)
  | .ycck => cvtYcck (byteAt p 0) (byteAt p 1) (byteAt p 2) (byteAt p 3)

/-- CONVERT_ROW(off): plane `c`, column `x` is sample `c` of the pixel at `off + x*BPP` (R181). -/
def convertRow (ct : ColorType) (width : Nat) (strip : List Byte) (off : Nat) : Row :=
  let pixels := (List.range width).map (fun x => cvt ct (memReadStrip strip (off + x * ct.bpp) ct.bpp))
  (List.range ct.ncomp).map (fun c => pixels.map (fun samples => byteAt samples c))

/-! ## The instructions -/

/-- A pixel operation run by itself gives its samples (log 4). -/
def State.giveSamples (s : State) (samples : List Byte) : State := s.withResult (.samples samples)

/-- RGB2YCC (R171). -/
def execRgb2ycc (r g b : Byte) (s : State) : Host.Outcome State Fault Refusal := .next (s.giveSamples (rgb2ycc r g b))

/-- CVT.LUMA (R172). -/
def execCvtLuma (p0 : Byte) (s : State) : Host.Outcome State Fault Refusal := .next (s.giveSamples (cvtLuma p0))

/-- CVT.RGB (R173). -/
def execCvtRgb (p0 p1 p2 : Byte) (s : State) : Host.Outcome State Fault Refusal :=
  .next (s.giveSamples (cvtRgb p0 p1 p2))

/-- CVT.RGBA (R174). -/
def execCvtRgba (p0 p1 p2 p3 : Byte) (s : State) : Host.Outcome State Fault Refusal :=
  .next (s.giveSamples (cvtRgba p0 p1 p2 p3))

/-- CVT.BGR (R175). -/
def execCvtBgr (p0 p1 p2 : Byte) (s : State) : Host.Outcome State Fault Refusal :=
  .next (s.giveSamples (cvtBgr p0 p1 p2))

/-- CVT.BGRA (R176). -/
def execCvtBgra (p0 p1 p2 p3 : Byte) (s : State) : Host.Outcome State Fault Refusal :=
  .next (s.giveSamples (cvtBgra p0 p1 p2 p3))

/-- CVT.YCBCR (R177). -/
def execCvtYcbcr (p0 p1 p2 : Byte) (s : State) : Host.Outcome State Fault Refusal :=
  .next (s.giveSamples (cvtYcbcr p0 p1 p2))

/-- CVT.CMYK (R178). -/
def execCvtCmyk (p0 p1 p2 p3 : Byte) (s : State) : Host.Outcome State Fault Refusal :=
  .next (s.giveSamples (cvtCmyk p0 p1 p2 p3))

/-- CVT.CMYKASYCCK (R179). -/
def execCvtCmykAsYcck (p0 p1 p2 p3 : Byte) (s : State) : Host.Outcome State Fault Refusal :=
  .next (s.giveSamples (cvtCmykAsYcck p0 p1 p2 p3))

/-- CVT.YCCK (R180). -/
def execCvtYcck (p0 p1 p2 p3 : Byte) (s : State) : Host.Outcome State Fault Refusal :=
  .next (s.giveSamples (cvtYcck p0 p1 p2 p3))

/-- CONVERT_ROW (R181): the row at `off`, which must lie in the strip. DESIGN CHOICE (log 22): R181 gives `off` as a
multiple of STRIDE; run by itself with any other `off`, it reads the WIDTH pixels from `off` on, as the pseudocode
does; so it does with a strip of 2^32 bytes or more (log 25). -/
def execConvertRow (strip : List Byte) (off : Nat) (s : State) : Host.Outcome State Fault Refusal :=
  if off + s.stride ≤ strip.length then
    .next (s.withResult (.row (convertRow s.colorType s.width.toNat strip off)))
  else .fault .stripEnds

/-- Reserved colour type 0x09 (R297): answered InvalidColorType. -/
def execReservedColor09 (s : State) : Host.Outcome State Fault Refusal := .next (s.reject .invalidColorType)

/-- Reserved colour types 0x0A and 0x0B (R297). -/
def execReservedColor0A (_low : BitVec 1) (s : State) : Host.Outcome State Fault Refusal :=
  .next (s.reject .invalidColorType)

/-- Reserved colour types 0x0C to 0x0F (R297). -/
def execReservedColor0C (_low : BitVec 2) (s : State) : Host.Outcome State Fault Refusal :=
  .next (s.reject .invalidColorType)

/-- Reserved colour types 0x10 to 0x1F (R297). -/
def execReservedColor10 (_low : BitVec 4) (s : State) : Host.Outcome State Fault Refusal :=
  .next (s.reject .invalidColorType)

/-- Reserved colour types 0x20 to 0x3F (R297). -/
def execReservedColor20 (_low : BitVec 5) (s : State) : Host.Outcome State Fault Refusal :=
  .next (s.reject .invalidColorType)

/-- Reserved colour types 0x40 to 0x7F (R297). -/
def execReservedColor40 (_low : BitVec 6) (s : State) : Host.Outcome State Fault Refusal :=
  .next (s.reject .invalidColorType)

/-- Reserved colour types 0x80 to 0xFF (R297). -/
def execReservedColor80 (_low : BitVec 7) (s : State) : Host.Outcome State Fault Refusal :=
  .next (s.reject .invalidColorType)

end Sys2Proof.Machine
end

