-- ==== Sys2Proof/Machine/Entropy.lean ====
section
/-! DEFINITION. The Entropy Coder (R230 to R240): ZIGZAG, HUFFGEN and the four tables, SIZE, MAG, and the
coding of a block. The table specifications are `huffBits` and `huffVals` of Decode.lean (R231). -/

namespace Sys2Proof.Machine

/-! ## Zig-zag order -/

/-- ZIGZAG[k], the natural index of the k-th coefficient (R230). -/
def zigzag : List Nat := List.flatten [
  [0, 1, 8, 16, 9, 2, 3, 10],
  [17, 24, 32, 25, 18, 11, 4, 5],
  [12, 19, 26, 33, 40, 48, 41, 34],
  [27, 20, 13, 6, 7, 14, 21, 28],
  [35, 42, 49, 56, 57, 50, 43, 36],
  [29, 22, 15, 23, 30, 37, 44, 51],
  [58, 59, 52, 45, 38, 31, 39, 46],
  [53, 60, 61, 54, 47, 55, 62, 63]]

/-! ## HUFFGEN (R232) -/

/-- The registers of HUFFGEN's loops: `k`, `c`, and the two tables being filled. -/
structure HuffGen where
  k    : Nat
  c    : Nat
  code : List Nat
  size : List Nat
  deriving DecidableEq, Repr

/-- The inner loop of HUFFGEN for length `l`: `n` symbols get the next codes. -/
def huffFill (vals : List Byte) (l : Nat) : (n : Nat) → HuffGen → HuffGen
  | 0, g => g
  | n + 1, g =>
    let sym := (byteAt vals g.k).toNat
    huffFill vals l n { k := g.k + 1, c := g.c + 1, code := g.code.set sym g.c, size := g.size.set sym l }

/-- The outer loop of HUFFGEN: the lengths from `l` on, `counts` the numbers of their codes. -/
def huffLengths (vals : List Byte) : (counts : List Nat) → (l : Nat) → HuffGen → HuffGen
  | [], _, g => g
  | n :: counts, l, g =>
    let g' := huffFill vals l n g
    huffLengths vals counts (l + 1) { g' with c := 2 * g'.c }

/-- HUFFGEN(bits, vals): the codes and sizes by symbol, from the 16 counts (R232); a count or a symbol that the
specification lacks is a free value, and one that is not read has no effect (log 9). -/
def huffGen (bits : List Nat) (vals : List Byte) : HuffGen :=
  huffLengths vals (countsOf 16 bits) 1 { k := 0, c := 0, code := List.replicate 256 0, size := List.replicate 256 0 }

/-- The table CONSTRUCT computes from a specification (R29, R232). -/
def huffTable (t : HuffId) : HuffTable :=
  { bits := huffBits t, vals := huffVals t,
    code := (huffGen (huffBits t) (huffVals t)).code, size := (huffGen (huffBits t) (huffVals t)).size }

/-- `T.code[sym]`. -/
def HuffTable.codeOf (T : HuffTable) (sym : Nat) : Nat := T.code.getD sym 0

/-- `T.size[sym]`: 0 for a symbol that has no code (R29, log 12). -/
def HuffTable.sizeOf (T : HuffTable) (sym : Nat) : Nat := T.size.getD sym 0

/-! ## Sizes and magnitude bits -/

/-- SIZE(v), the number of bits of |v| (R234). -/
def sizeOfInt (v : Int) : Nat := if v = 0 then 0 else Nat.log2 v.natAbs + 1

/-- MAG(v, n) as an unsigned `n`-bit number: the `n` low bits of `v`, of `v - 1` for a negative `v` (R112); for
n = SIZE(v) these are `v` and `v + 2^n - 1` (R235). -/
def magOfInt (v : Int) (n : Nat) : Nat := ((if 0 ≤ v then v else v - 1) % ((2 ^ n : Nat) : Int)).toNat

/-! ## Coding a block -/

/-- PUTBITS(T.code[sym], T.size[sym]): the code of a symbol (R112); nothing for a symbol that has none
(log 12). -/
def Coder.putCode (k : Coder) (T : HuffTable) (sym : Nat) : Coder := k.putBits (T.codeOf sym) (T.sizeOf sym)

/-- PUTBITS(MAG(v, S), S) for S = SIZE(v); nothing for S = 0 (R235). -/
def Coder.putMag (k : Coder) (v : Int) : Coder := k.putBits (magOfInt v (sizeOfInt v)) (sizeOfInt v)

/-- ENC_DC(dc, c) with the table `T` of component `c` (R236). -/
def Coder.encDc (k : Coder) (T : HuffTable) (dc : Int) (c : Fin 4) : Coder :=
  let diff := dc - k.pred.get c
  let k1 := { k with pred := k.pred.set c dc }
  (k1.putCode T (sizeOfInt diff)).putMag diff

/-- `n` ZRL symbols, sixteen zeros each (R237). -/
def Coder.putZrls (T : HuffTable) : (n : Nat) → Coder → Coder
  | 0, k => k
  | n + 1, k => Coder.putZrls T n (k.putCode T 0xF0)

/-- The loop of ENC_AC over the coefficients still to come, `run` zeros before them (R237). -/
def Coder.acLoop (T : HuffTable) : (coefs : List Int) → (run : Nat) → Coder → Coder
  | [], run, k => if run > 0 then k.putCode T 0x00 else k
  | a :: coefs, run, k =>
    if a = 0 then Coder.acLoop T coefs (run + 1) k
    else
      let k1 := Coder.putZrls T (run / 16) k
      Coder.acLoop T coefs 0 ((k1.putCode T (16 * (run % 16) + sizeOfInt a)).putMag a)

/-- The 63 coefficients ENC_AC reads, `zz[1]` to `zz[63]`; `zz[0]` is not read (R237). -/
def acCoefs (zz : List Int) : List Int := (List.range 63).map (fun k => numberAt zz (k + 1))

/-- ENC_AC(zz, c) with the table `T` of component `c` (R237). -/
def Coder.encAc (k : Coder) (T : HuffTable) (zz : List Int) : Coder := Coder.acLoop T (acCoefs zz) 0 k

/-- The block in zig-zag order (R238). -/
def zigzagOrder (q : List Int) : List Int := zigzag.map (numberAt q)

/-- ENCBLK(q, c) with the tables of component `c` (R238). -/
def Coder.encBlk (k : Coder) (dcT acT : HuffTable) (q : List Int) (c : Fin 4) : Coder :=
  let zz := zigzagOrder q
  (k.encDc dcT (numberAt zz 0) c).encAc acT zz

/-- ENCBLK with the tables the state holds for component `c` (R240). -/
def State.encBlk (s : State) (q : List Int) (c : Fin 4) : State :=
  s.withCoder (s.coder.encBlk (s.htDc (td c)) (s.htAc (ta c)) q c)

/-! ## The instructions -/

/-- HUFFGEN (R232). A specification of R231 has 16 counts that add up to the number of symbols; on any other the
model runs HUFFGEN too (DESIGN CHOICE, log 9). -/
def execHuffgen (bits : List Nat) (vals : List Byte) (s : State) : Host.Outcome State Fault Refusal :=
  .next (s.withResult (.codes (huffGen bits vals).code (huffGen bits vals).size))

/-- SIZE (R234). -/
def execSize (v : Int) (s : State) : Host.Outcome State Fault Refusal :=
  .next (s.withResult (.numbers [(sizeOfInt v : Int)]))

/-- MAG (R235): the bits, first sent first. For an `n` other than SIZE(v), on which R235 is silent, they are those
R112 gives (DEDUCED, log 19). -/
def execMag (v : Int) (n : Nat) (s : State) : Host.Outcome State Fault Refusal :=
  .next (s.withResult (.bits (bitsMsb (magOfInt v n) n)))

/-- ENC_DC (R236). DESIGN CHOICE (log 20): with a component `c` of NCOMP or more, which R32 and R236 leave open, the
model runs it on PRED[c] and the tables TD and TA give `c`. -/
def execEncDc (dc : Int) (c : Fin 4) (s : State) : Host.Outcome State Fault Refusal :=
  .next (s.withCoder (s.coder.encDc (s.htDc (td c)) dc c))

/-- ENC_AC (R237). DESIGN CHOICE: a list of other than 64 coefficients runs too, an absent one a free value (log 9);
so does a component `c` of NCOMP or more, with the table TA gives it (log 20). -/
def execEncAc (zz : List Int) (c : Fin 4) (s : State) : Host.Outcome State Fault Refusal :=
  .next (s.withCoder (s.coder.encAc (s.htAc (ta c)) zz))

/-- ENCBLK (R238). DESIGN CHOICE: a list of other than 64 coefficients runs too, an absent one a free value (log 9);
so does a component `c` of NCOMP or more, as ENC_DC and ENC_AC do (log 20). -/
def execEncblk (q : List Int) (c : Fin 4) (s : State) : Host.Outcome State Fault Refusal :=
  .next (s.encBlk q c)

end Sys2Proof.Machine
end

