-- ==== Sys2Proof/Machine/Transform.lean ====
section
/-! DEFINITION. The Block Transformer (R205 to R214): the base quantisation tables and QSCALE, EXTRACT with
the level shift, the integer forward DCT, the quantiser. Blocks and tables are in natural order, index
8 * row + column. -/

namespace Sys2Proof.Machine

/-! ## Quantisation tables -/

/-- BASE_LUMA (R206). -/
def baseLuma : List Nat := List.flatten [
  [16, 11, 10, 16, 24, 40, 51, 61],
  [12, 12, 14, 19, 26, 58, 60, 55],
  [14, 13, 16, 24, 40, 57, 69, 56],
  [14, 17, 22, 29, 51, 87, 80, 62],
  [18, 22, 37, 56, 68, 109, 103, 77],
  [24, 35, 55, 64, 81, 104, 113, 92],
  [49, 64, 78, 87, 103, 121, 120, 101],
  [72, 92, 95, 98, 112, 100, 103, 99]]

/-- BASE_CHROMA (R206). -/
def baseChroma : List Nat := List.flatten [
  [17, 18, 24, 47, 99, 99, 99, 99],
  [18, 21, 26, 66, 99, 99, 99, 99],
  [24, 26, 56, 99, 99, 99, 99, 99],
  [47, 66, 99, 99, 99, 99, 99, 99],
  [99, 99, 99, 99, 99, 99, 99, 99],
  [99, 99, 99, 99, 99, 99, 99, 99],
  [99, 99, 99, 99, 99, 99, 99, 99],
  [99, 99, 99, 99, 99, 99, 99, 99]]

/-- `scale` of QSCALE (R205), for a validated quality; outside 1 to 100 a free value (log 9). -/
def qualityScale (quality : Nat) : Nat :=
  if 1 ≤ quality ∧ quality ≤ Config.maxQuality then
    if quality < 50 then 5000 / quality else 200 - 2 * quality
  else Config.unstatedScale quality

/-- One entry of QSCALE: scaled, then held in 1 to 255 (R205). -/
def qscaleEntry (scale base : Nat) : Byte := BitVec.ofNat 8 (min 255 (max 1 ((base * scale + 50) / 100)))

/-- QSCALE(base, quality) (R205): the 64 entries. -/
def qscale (base : List Nat) (quality : Nat) : List Byte :=
  (countsOf 64 base).map (qscaleEntry (qualityScale quality))

/-! ## Forming a block -/

/-- The sample of a block at row `r`, column `k`, from `PENDING`, the last real column repeated to the right,
level-shifted (R207, R208). -/
def blockSample (pending : List Row) (width bx : Nat) (c : Fin 4) (r k : Nat) : Int :=
  ((memReadPend pending r c.val (min (8 * bx + k) (width - 1))).toNat : Int) - 128

/-- EXTRACT(bx, c) (R207). -/
def extract (pending : List Row) (width bx : Nat) (c : Fin 4) : List Int :=
  (List.range 64).map (fun i => blockSample pending width bx c (i / 8) (i % 8))

/-! ## The forward DCT (R209 to R211) -/

/-- DESCALE(x, n): division by 2^n to the nearest integer, ties toward plus infinity (R211). -/
def descale (x : Int) (n : Nat) : Int := asr (x + ((2 ^ (n - 1) : Nat) : Int)) n

/-- FDCT1D on its eight operands (R209), with the constants of R211. -/
def fdct8 (first : Bool) (d0 d1 d2 d3 d4 d5 d6 d7 : Int) : List Int :=
  let t0 := d0 + d7
  let t7 := d0 - d7
  let t1 := d1 + d6
  let t6 := d1 - d6
  let t2 := d2 + d5
  let t5 := d2 - d5
  let t3 := d3 + d4
  let t4 := d3 - d4
  let t10 := t0 + t3
  let t13 := t0 - t3
  let t11 := t1 + t2
  let t12 := t1 - t2
  let sh := if first then 11 else 15
  let o0 := if first then (t10 + t11) * 4 else descale (t10 + t11) 2
  let o4 := if first then (t10 - t11) * 4 else descale (t10 - t11) 2
  let e1 := (t12 + t13) * 4433
  let o2 := descale (e1 + t13 * 6270) sh
  let o6 := descale (e1 - t12 * 15137) sh
  let z5 := ((t4 + t6) + (t5 + t7)) * 9633
  let z1 := -(t4 + t7) * 7373
  let z2 := -(t5 + t6) * 20995
  let z3 := -(t4 + t6) * 16069 + z5
  let z4 := -(t5 + t7) * 3196 + z5
  let o7 := descale (t4 * 2446 + z1 + z3) sh
  let o5 := descale (t5 * 16819 + z2 + z4) sh
  let o3 := descale (t6 * 25172 + z2 + z3) sh
  let o1 := descale (t7 * 12299 + z1 + z4) sh
  [o0, o1, o2, o3, o4, o5, o6, o7]

/-- FDCT1D(d, first) (R209). -/
def fdct1d (d : List Int) (first : Bool) : List Int :=
  fdct8 first (numberAt d 0) (numberAt d 1) (numberAt d 2) (numberAt d 3)
    (numberAt d 4) (numberAt d 5) (numberAt d 6) (numberAt d 7)

/-- Row `r` of a block. -/
def blockRow (blk : List Int) (r : Nat) : List Int := (List.range 8).map (fun k => numberAt blk (8 * r + k))

/-- Column `k` of a block. -/
def blockColumn (blk : List Int) (k : Nat) : List Int := (List.range 8).map (fun r => numberAt blk (8 * r + k))

/-- Pass 1 of FDCT: every row transformed (R210). -/
def fdctRows (blk : List Int) : List Int := (List.range 8).flatMap (fun r => fdct1d (blockRow blk r) true)

/-- Pass 2 of FDCT: every column transformed (R210). -/
def fdctColumns (ws : List Int) : List Int :=
  let cols := (List.range 8).map (fun k => fdct1d (blockColumn ws k) false)
  (List.range 64).map (fun i => (cols.getD (i % 8) []).getD (i / 8) 0)

/-- FDCT(blk): rows, then columns of the result (R210). -/
def fdct (blk : List Int) : List Int := fdctColumns (fdctRows blk)

/-! ## The quantiser -/

/-- One coefficient of QUANT: divided by 8 times the table entry, to the nearest integer, ties away from
zero (R212). For an entry 0, which no constructed table holds, the quotient is a free value (log 10). -/
def quantOne (coef : Int) (entry : Byte) : Int :=
  let d := 8 * entry.toNat
  let m := if d = 0 then Config.quantByZero coef.natAbs else (coef.natAbs + d / 2) / d
  if coef < 0 then -(m : Int) else (m : Int)

/-- QUANT(coef, t) with the table `QT[t]` (R212): the 64 quotients. -/
def quant (coef : List Int) (table : List Byte) : List Int :=
  (List.range 64).map (fun i => quantOne (numberAt coef i) (byteAt table i))

/-- TRANSFORM(blk, t) = QUANT(FDCT(blk), t) (R214). -/
def transform (blk : List Int) (table : List Byte) : List Int := quant (fdct blk) table

/-! ## The instructions -/

/-- An operation on integers run by itself gives its result (log 4). -/
def State.giveNumbers (s : State) (xs : List Int) : State := s.withResult (.numbers xs)

/-- QSCALE (R205); the table is the operation's result, which CONSTRUCT puts in QT. DESIGN CHOICE (log 9): a quality
outside 1 to 100 runs with a free `scale`, a base table of other than 64 entries with free absent entries. -/
def execQscale (base : List Nat) (quality : Nat) (s : State) : Host.Outcome State Fault Refusal :=
  .next (s.withResult (.table (qscale base quality)))

/-- EXTRACT (R207): PENDING holds 8 rows and the component `c`. DESIGN CHOICE (log 21): a block column of BLOCKS_W or
more runs as the pseudocode reads, every column the last real one. -/
def execExtract (bx : Nat) (c : Fin 4) (s : State) : Host.Outcome State Fault Refusal :=
  if s.pending.length = Config.bandHeight ∧ c.val < s.ncomp then
    .next (s.giveNumbers (extract s.pending s.width.toNat bx c))
  else .fault .noSuchBlock

/-- FDCT1D (R209). DESIGN CHOICE (log 9): a list of other than 8 numbers runs too, an absent one a free value. -/
def execFdct1d (d : List Int) (first : Bool) (s : State) : Host.Outcome State Fault Refusal :=
  .next (s.giveNumbers (fdct1d d first))

/-- FDCT (R210). DESIGN CHOICE (log 9): a list of other than 64 numbers runs too, an absent one a free value. -/
def execFdct (blk : List Int) (s : State) : Host.Outcome State Fault Refusal := .next (s.giveNumbers (fdct blk))

/-- QUANT (R212). DESIGN CHOICE (log 9): a list of other than 64 numbers runs too, an absent one a free value. -/
def execQuant (coef : List Int) (t : Fin 2) (s : State) : Host.Outcome State Fault Refusal :=
  .next (s.giveNumbers (quant coef (s.qt t)))

/-- TRANSFORM (R214). DESIGN CHOICE (log 9): a list of other than 64 numbers runs too, an absent one a free value. -/
def execTransform (blk : List Int) (t : Fin 2) (s : State) : Host.Outcome State Fault Refusal :=
  .next (s.giveNumbers (transform blk (s.qt t)))

end Sys2Proof.Machine
end

