-- ==== Sys2Proof/Machine/Writer.lean ====
section
/-! DEFINITION. The Bitstream Writer's segments and header (R263 to R273) and its instructions (R260 to
R272). Each segment is a byte sequence of the configuration and the tables; its writer appends it to OUT. -/

namespace Sys2Proof.Machine

/-! ## The segments (R103 to R109) -/

/-- SOI (R103). -/
def soiBytes : List Byte := [0xFF, 0xD8]

/-- APP0, the JFIF header (R104, R265). -/
def app0Bytes : List Byte :=
  [0xFF, 0xE0, 0x00, 0x10, 0x4A, 0x46, 0x49, 0x46, 0x00, 0x01, 0x01, 0x00, 0x00, 0x01, 0x00, 0x01, 0x00, 0x00]

/-- APP14, the Adobe marker (R105, R266). -/
def app14Bytes : List Byte :=
  [0xFF, 0xEE, 0x00, 0x0E, 0x41, 0x64, 0x6F, 0x62, 0x65, 0x00, 0x64, 0x00, 0x00, 0x00, 0x00, 0x02]

/-- DQT of table `t` with entries `qt`, written in zig-zag order (R106, R267). -/
def dqtBytes (t : Fin 2) (qt : List Byte) : List Byte :=
  [0xFF, 0xDB, 0x00, 0x43, BitVec.ofNat 8 t.val] ++ zigzag.map (byteAt qt)

/-- SOF0 (R107, R268): height before width. -/
def sof0Bytes (width height : Half) (ncomp : Nat) : List Byte :=
  [0xFF, 0xC0] ++ be16 (BitVec.ofNat 16 (8 + 3 * ncomp)) ++ [8] ++ be16 height ++ be16 width ++
    [BitVec.ofNat 8 ncomp] ++ (comps ncomp).flatMap (fun c => [cid c, 0x11, BitVec.ofNat 8 (tq c).val])

/-- DHT of class `cls` (0 DC, 1 AC) and table `h` with contents `T` (R108, R269). -/
def dhtBytes (cls h : Fin 2) (T : HuffTable) : List Byte :=
  [0xFF, 0xC4] ++ be16 (BitVec.ofNat 16 (19 + T.vals.length)) ++ [BitVec.ofNat 8 (16 * cls.val + h.val)] ++
    T.bits.map (BitVec.ofNat 8) ++ T.vals

/-- SOS (R109, R270). -/
def sosBytes (ncomp : Nat) : List Byte :=
  [0xFF, 0xDA] ++ be16 (BitVec.ofNat 16 (6 + 2 * ncomp)) ++ [BitVec.ofNat 8 ncomp] ++
    (comps ncomp).flatMap (fun c => [cid c, BitVec.ofNat 8 (16 * (td c).val + (ta c).val)]) ++
    [0x00, 0x3F, 0x00]

/-- EOI (R103), also the whole of FOOTER_BYTES (R146). -/
def eoiBytes : List Byte := [0xFF, 0xD9]

/-- HEADER(w, h, ct, q), a pure function: the segments in the order of R272, with QT the scaled base tables
and the standard Huffman tables. -/
def headerBytes (width height : Half) (ct : ColorType) (quality : Nat) : List Byte :=
  soiBytes ++
  (if ct.ncomp = 4 then app14Bytes else app0Bytes) ++
  dqtBytes 0 (qscale baseLuma quality) ++
  (if ct.ncomp > 1 then dqtBytes 1 (qscale baseChroma quality) else []) ++
  sof0Bytes width height ct.ncomp ++
  dhtBytes 0 0 (huffTable .dc0) ++
  dhtBytes 1 0 (huffTable .ac0) ++
  (if ct.ncomp > 1 then dhtBytes 0 1 (huffTable .dc1) ++ dhtBytes 1 1 (huffTable .ac1) else []) ++
  sosBytes ct.ncomp

/-! ## The writers (R264 to R272) -/

/-- WRITE_SOI (R264). -/
def State.writeSoi (s : State) : State := s.writeRaw soiBytes

/-- WRITE_APP0 (R265). -/
def State.writeApp0 (s : State) : State := s.writeRaw app0Bytes

/-- WRITE_APP14 (R266). -/
def State.writeApp14 (s : State) : State := s.writeRaw app14Bytes

/-- WRITE_DQT(t) (R267). -/
def State.writeDqt (s : State) (t : Fin 2) : State := s.writeRaw (dqtBytes t (s.qt t))

/-- WRITE_SOF0 (R268). -/
def State.writeSof0 (s : State) : State := s.writeRaw (sof0Bytes s.width s.height s.ncomp)

/-- WRITE_DHT(cls, h) (R269). -/
def State.writeDht (s : State) (cls h : Fin 2) : State := s.writeRaw (dhtBytes cls h (s.ht cls h))

/-- WRITE_SOS (R270). -/
def State.writeSos (s : State) : State := s.writeRaw (sosBytes s.ncomp)

/-- WRITE_EOI (R271). -/
def State.writeEoi (s : State) : State := s.writeRaw eoiBytes

/-- WRITE_HEADER (R272): the writers in order; the chrominance tables only when NCOMP > 1. -/
def State.writeHeader (s : State) : State :=
  let s1 := s.writeSoi
  let s2 := if s1.ncomp = 4 then s1.writeApp14 else s1.writeApp0
  let s3 := s2.writeDqt 0
  let s4 := if s3.ncomp > 1 then s3.writeDqt 1 else s3
  let s5 := ((s4.writeSof0).writeDht 0 0).writeDht 1 0
  let s6 := if s5.ncomp > 1 then (s5.writeDht 0 1).writeDht 1 1 else s5
  s6.writeSos

/-! ## The instructions -/

/-- PUTBITS (R260). DESIGN CHOICE (log 9): for an `n` outside 1 to 16 or a `v` of 2^n or more too, the `n` low bits of
`v` are appended. -/
def execPutbits (v n : Nat) (s : State) : Host.Outcome State Fault Refusal := .next (s.putBits v n)

/-- EMIT_ECS (R261). -/
def execEmitEcs (b : Byte) (s : State) : Host.Outcome State Fault Refusal :=
  .next (s.withCoder (s.coder.emitEcs b))

/-- FLUSH (R262); BITCNT is 0 after, as the rule asserts. -/
def execFlush (s : State) : Host.Outcome State Fault Refusal :=
  if s.flush.bitbuf = [] then .next s.flush else .fault .bitsLeft

/-- WRITE_RAW (R263): BITBUF is not touched, whatever it holds (log 24). -/
def execWriteRaw (bytes : List Byte) (s : State) : Host.Outcome State Fault Refusal := .next (s.writeRaw bytes)

/-- WRITE_SOI (R264). -/
def execWriteSoi (s : State) : Host.Outcome State Fault Refusal := .next s.writeSoi

/-- WRITE_APP0 (R265). -/
def execWriteApp0 (s : State) : Host.Outcome State Fault Refusal := .next s.writeApp0

/-- WRITE_APP14 (R266). -/
def execWriteApp14 (s : State) : Host.Outcome State Fault Refusal := .next s.writeApp14

/-- WRITE_DQT (R267). -/
def execWriteDqt (t : Fin 2) (s : State) : Host.Outcome State Fault Refusal := .next (s.writeDqt t)

/-- WRITE_SOF0 (R268). -/
def execWriteSof0 (s : State) : Host.Outcome State Fault Refusal := .next s.writeSof0

/-- WRITE_DHT (R269). -/
def execWriteDht (cls h : Fin 2) (s : State) : Host.Outcome State Fault Refusal := .next (s.writeDht cls h)

/-- WRITE_SOS (R270). -/
def execWriteSos (s : State) : Host.Outcome State Fault Refusal := .next s.writeSos

/-- WRITE_EOI (R271). DESIGN CHOICE (log 24): R271 requires BITCNT = 0; run by itself with bits held, it appends FF D9
and keeps BITBUF, as R263 says of WRITE_RAW. -/
def execWriteEoi (s : State) : Host.Outcome State Fault Refusal := .next s.writeEoi

/-- WRITE_HEADER (R272). -/
def execWriteHeader (s : State) : Host.Outcome State Fault Refusal := .next s.writeHeader

end Sys2Proof.Machine
end

