-- ==== Sys2Proof/Machine/Scheduler.lean ====
section
/-! DEFINITION. The Strip Buffer and MCU Scheduler (R190 to R196): APPEND_ROWS, BAND, PAD_BAND. -/

namespace Sys2Proof.Machine

/-- One block of BAND: EXTRACT, TRANSFORM, ENCBLK for block column `bx` of component `c` (R192). -/
def State.codeBlock (s : State) (bx : Nat) (c : Fin 4) : State :=
  s.encBlk (transform (extract s.pending s.width.toNat bx c) (s.qt (tq c))) c

/-- One MCU of BAND: the blocks of its components in order (R192). -/
def State.codeMcu (s : State) (bx : Nat) : State := (comps s.ncomp).foldl (fun s c => s.codeBlock bx c) s

/-- BAND(): the MCU columns from left to right; PENDING is empty after (R192). -/
def State.band (s : State) : State := ((List.range s.blocksW).foldl State.codeMcu s).withPending []

/-- PAD_BAND(): the last row repeated until there are 8 (R194). -/
def State.padBand (s : State) : State :=
  s.withPending (s.pending ++ List.replicate (Config.bandHeight - s.pending.length) (s.pending.getLastD []))

/-- One row of APPEND_ROWS: converted, counted, and the band coded when it is the eighth (R191). -/
def State.appendRow (s : State) (strip : List Byte) (off : Nat) : State :=
  let s1 := (s.withPending (s.pending ++ [convertRow s.colorType s.width.toNat strip off])).withRowsReceived
    (s.rowsReceived + 1)
  if s1.pending.length = Config.bandHeight then s1.band else s1

/-- APPEND_ROWS(rows, n) (R191). -/
def State.appendRows (s : State) (rows : List Byte) (n : Nat) : State :=
  (List.range n).foldl (fun s' i => s'.appendRow rows (i * s.stride)) s

/-! ## The instructions -/

/-- APPEND_ROWS (R191): the strip holds the `n` rows. DESIGN CHOICE (log 23): R191 takes `n = len(rows) div STRIDE`
and `ROWS_RECEIVED + n <= HEIGHT` as checked before; run by itself with a smaller `n`, a strip that is no whole
number of rows, or more rows than HEIGHT, it takes the first `n` rows as the pseudocode does; so it does with a strip of
2^32 bytes or more (log 25). -/
def execAppendRows (rows : List Byte) (n : Nat) (s : State) : Host.Outcome State Fault Refusal :=
  if n * s.stride ≤ rows.length then .next (s.appendRows rows n) else .fault .stripEnds

/-- BAND (R192): asserts that PENDING holds 8 rows. -/
def execBand (s : State) : Host.Outcome State Fault Refusal :=
  if s.pending.length = Config.bandHeight then .next s.band else .fault .bandNotFull

/-- PAD_BAND (R194): asserts that PENDING holds 1 to 7 rows. -/
def execPadBand (s : State) : Host.Outcome State Fault Refusal :=
  if 1 ≤ s.pending.length ∧ s.pending.length ≤ 7 then .next s.padBand else .fault .padBandCount

end Sys2Proof.Machine
end

