-- ==== Sys2Proof/Machine/Commands.lean ====
section
/-! DEFINITION. The host commands (R140 to R148). Each is one atomic step with one response; every test
comes before the first write, so that a rejected command changes nothing (R300). -/

namespace Sys2Proof.Machine

/-- The writes of CONSTRUCT before the header: configuration, tables, empty buffers (R141). -/
def State.configure (s : State) (width height : Half) (ct : ColorType) (quality : BitVec 7) : State :=
  { s with
    width := width
    height := height
    colorType := ct
    quality := quality
    qtLuma := qscale baseLuma quality.toNat
    qtChroma := qscale baseChroma quality.toNat
    htDcLuma := huffTable .dc0
    htAcLuma := huffTable .ac0
    htDcChroma := huffTable .dc1
    htAcChroma := huffTable .ac1
    pending := []
    rowsReceived := 0
    pred := { y := 0, cb := 0, cr := 0, k := 0 }
    bitbuf := []
    out := [] }

/-- CONSTRUCT (R141). -/
def execConstruct (width height : Quad) (colorType quality : Byte) (s : State) :
    Host.Outcome State Fault Refusal :=
  match checkConfig width height colorType quality with
  | .error st => .next (s.reject st)
  | .ok ct =>
    let s1 := s.configure (width.setWidth 16) (height.setWidth 16) ct (quality.setWidth 7)
    .next ((s1.writeHeader.withLifecycle .fresh).respond [])

/-- ENCODE_STRIP once its four tests have passed: the rows are taken, then OUT is drained (R142). -/
def State.takeStrip (s : State) (rows : List Byte) : State :=
  ((s.appendRows rows (rows.length / s.stride)).withLifecycle .active).respondDrain

/-- ENCODE_STRIP (R142). DESIGN CHOICE (log 25): R9 and R142 give a strip of at most STRIP_MAX = 2^32 - 1 bytes; `exec`
runs a longer one in the same way. No packet carries one, so `step` never does. -/
def execEncodeStrip (rows : List Byte) (s : State) : Host.Outcome State Fault Refusal :=
  match s.encodeGate with
  | some st => .next (s.reject st)
  | none =>
    if rows.length % s.stride ≠ 0 then .next (s.reject .malformedStripLength)
    else if s.rowsReceived + rows.length / s.stride > s.height.toNat then .next (s.reject .rowOverflow)
    else .next (s.takeStrip rows)

/-- FINISH once its tests have passed: the last partial band, FLUSH, EOI, then OUT is drained (R143). -/
def State.closeStream (s : State) : State :=
  let s1 := if s.pending.length > 0 then s.padBand.band else s
  (s1.flush.writeEoi.withLifecycle .finished).respondDrain

/-- FINISH (R143). -/
def execFinish (s : State) : Host.Outcome State Fault Refusal :=
  match s.encodeGate with
  | some st => .next (s.reject st)
  | none =>
    if s.rowsReceived < s.height.toNat then .next (s.reject .incompleteImage)
    else .next s.closeStream

/-- TAKE_OUTPUT (R144). -/
def execTakeOutput (s : State) : Host.Outcome State Fault Refusal :=
  match s.takeGate with
  | some st => .next (s.reject st)
  | none => .next s.respondDrain

/-- HEADER_BYTES (R145): the tests of CONSTRUCT; no state is read or written. -/
def execHeaderBytes (width height : Quad) (colorType quality : Byte) (s : State) :
    Host.Outcome State Fault Refusal :=
  match checkConfig width height colorType quality with
  | .error st => .next (s.reject st)
  | .ok ct => .next (s.respond (headerBytes (width.setWidth 16) (height.setWidth 16) ct quality.toNat))

/-- FOOTER_BYTES (R146). -/
def execFooterBytes (s : State) : Host.Outcome State Fault Refusal := .next (s.respond eoiBytes)

/-- DISPOSE (R147): every item of R20 takes its power-on value (R39, log 5). -/
def execDispose (s : State) : Host.Outcome State Fault Refusal :=
  .next (((State.reset.withInput s.input).withResult s.result).respond [])

/-- Reserved opcode 0x00 (R148): answered IllegalCommand. -/
def execReservedOp00 (s : State) : Host.Outcome State Fault Refusal := .next (s.reject .illegalCommand)

/-- Reserved opcodes 0x08 to 0x0F (R148). -/
def execReservedOp08 (_low : BitVec 3) (s : State) : Host.Outcome State Fault Refusal :=
  .next (s.reject .illegalCommand)

/-- Reserved opcodes 0x10 to 0x1F (R148). -/
def execReservedOp10 (_low : BitVec 4) (s : State) : Host.Outcome State Fault Refusal :=
  .next (s.reject .illegalCommand)

/-- Reserved opcodes 0x20 to 0x3F (R148). -/
def execReservedOp20 (_low : BitVec 5) (s : State) : Host.Outcome State Fault Refusal :=
  .next (s.reject .illegalCommand)

/-- Reserved opcodes 0x40 to 0x7F (R148). -/
def execReservedOp40 (_low : BitVec 6) (s : State) : Host.Outcome State Fault Refusal :=
  .next (s.reject .illegalCommand)

/-- Reserved opcodes 0x80 to 0xFF (R148). -/
def execReservedOp80 (_low : BitVec 7) (s : State) : Host.Outcome State Fault Refusal :=
  .next (s.reject .illegalCommand)

end Sys2Proof.Machine
end

