-- ==== Sys2Proof/Machine/HuffCodes.lean ====
section
/-! DEFINITION. The 348 Huffman codes as instructions (R233): each sends the bits of its code, PUTBITS(code,
length) (R112, R260). The codes here are the listing's; ENC_DC and ENC_AC read the tables HUFFGEN made. -/

namespace Sys2Proof.Machine

/-- HUFF.HT_DC[0].00. -/
def execHuffDc0_00 (s : State) : Host.Outcome State Fault Refusal := .next (s.putBits 0b00 2)

/-- HUFF.HT_DC[0].01. -/
def execHuffDc0_01 (s : State) : Host.Outcome State Fault Refusal := .next (s.putBits 0b010 3)

/-- HUFF.HT_DC[0].02. -/
def execHuffDc0_02 (s : State) : Host.Outcome State Fault Refusal := .next (s.putBits 0b011 3)

/-- HUFF.HT_DC[0].03. -/
def execHuffDc0_03 (s : State) : Host.Outcome State Fault Refusal := .next (s.putBits 0b100 3)

/-- HUFF.HT_DC[0].04. -/
def execHuffDc0_04 (s : State) : Host.Outcome State Fault Refusal := .next (s.putBits 0b101 3)

/-- HUFF.HT_DC[0].05. -/
def execHuffDc0_05 (s : State) : Host.Outcome State Fault Refusal := .next (s.putBits 0b110 3)

/-- HUFF.HT_DC[0].06. -/
def execHuffDc0_06 (s : State) : Host.Outcome State Fault Refusal := .next (s.putBits 0b1110 4)

/-- HUFF.HT_DC[0].07. -/
def execHuffDc0_07 (s : State) : Host.Outcome State Fault Refusal := .next (s.putBits 0b11110 5)

/-- HUFF.HT_DC[0].08. -/
def execHuffDc0_08 (s : State) : Host.Outcome State Fault Refusal := .next (s.putBits 0b111110 6)

/-- HUFF.HT_DC[0].09. -/
def execHuffDc0_09 (s : State) : Host.Outcome State Fault Refusal := .next (s.putBits 0b1111110 7)

/-- HUFF.HT_DC[0].0A. -/
def execHuffDc0_0A (s : State) : Host.Outcome State Fault Refusal := .next (s.putBits 0b11111110 8)

/-- HUFF.HT_DC[0].0B. -/
def execHuffDc0_0B (s : State) : Host.Outcome State Fault Refusal := .next (s.putBits 0b111111110 9)

/-- HUFF.HT_AC[0].01. -/
def execHuffAc0_01 (s : State) : Host.Outcome State Fault Refusal := .next (s.putBits 0b00 2)

/-- HUFF.HT_AC[0].02. -/
def execHuffAc0_02 (s : State) : Host.Outcome State Fault Refusal := .next (s.putBits 0b01 2)

/-- HUFF.HT_AC[0].03. -/
def execHuffAc0_03 (s : State) : Host.Outcome State Fault Refusal := .next (s.putBits 0b100 3)

/-- HUFF.HT_AC[0].00. -/
def execHuffAc0_00 (s : State) : Host.Outcome State Fault Refusal := .next (s.putBits 0b1010 4)

/-- HUFF.HT_AC[0].04. -/
def execHuffAc0_04 (s : State) : Host.Outcome State Fault Refusal := .next (s.putBits 0b1011 4)

/-- HUFF.HT_AC[0].11. -/
def execHuffAc0_11 (s : State) : Host.Outcome State Fault Refusal := .next (s.putBits 0b1100 4)

/-- HUFF.HT_AC[0].05. -/
def execHuffAc0_05 (s : State) : Host.Outcome State Fault Refusal := .next (s.putBits 0b11010 5)

/-- HUFF.HT_AC[0].12. -/
def execHuffAc0_12 (s : State) : Host.Outcome State Fault Refusal := .next (s.putBits 0b11011 5)

/-- HUFF.HT_AC[0].21. -/
def execHuffAc0_21 (s : State) : Host.Outcome State Fault Refusal := .next (s.putBits 0b11100 5)

/-- HUFF.HT_AC[0].31. -/
def execHuffAc0_31 (s : State) : Host.Outcome State Fault Refusal := .next (s.putBits 0b111010 6)

/-- HUFF.HT_AC[0].41. -/
def execHuffAc0_41 (s : State) : Host.Outcome State Fault Refusal := .next (s.putBits 0b111011 6)

/-- HUFF.HT_AC[0].06. -/
def execHuffAc0_06 (s : State) : Host.Outcome State Fault Refusal := .next (s.putBits 0b1111000 7)

/-- HUFF.HT_AC[0].13. -/
def execHuffAc0_13 (s : State) : Host.Outcome State Fault Refusal := .next (s.putBits 0b1111001 7)

/-- HUFF.HT_AC[0].51. -/
def execHuffAc0_51 (s : State) : Host.Outcome State Fault Refusal := .next (s.putBits 0b1111010 7)

/-- HUFF.HT_AC[0].61. -/
def execHuffAc0_61 (s : State) : Host.Outcome State Fault Refusal := .next (s.putBits 0b1111011 7)

/-- HUFF.HT_AC[0].07. -/
def execHuffAc0_07 (s : State) : Host.Outcome State Fault Refusal := .next (s.putBits 0b11111000 8)

/-- HUFF.HT_AC[0].22. -/
def execHuffAc0_22 (s : State) : Host.Outcome State Fault Refusal := .next (s.putBits 0b11111001 8)

/-- HUFF.HT_AC[0].71. -/
def execHuffAc0_71 (s : State) : Host.Outcome State Fault Refusal := .next (s.putBits 0b11111010 8)

/-- HUFF.HT_AC[0].14. -/
def execHuffAc0_14 (s : State) : Host.Outcome State Fault Refusal := .next (s.putBits 0b111110110 9)

/-- HUFF.HT_AC[0].32. -/
def execHuffAc0_32 (s : State) : Host.Outcome State Fault Refusal := .next (s.putBits 0b111110111 9)

/-- HUFF.HT_AC[0].81. -/
def execHuffAc0_81 (s : State) : Host.Outcome State Fault Refusal := .next (s.putBits 0b111111000 9)

/-- HUFF.HT_AC[0].91. -/
def execHuffAc0_91 (s : State) : Host.Outcome State Fault Refusal := .next (s.putBits 0b111111001 9)

/-- HUFF.HT_AC[0].A1. -/
def execHuffAc0_A1 (s : State) : Host.Outcome State Fault Refusal := .next (s.putBits 0b111111010 9)

/-- HUFF.HT_AC[0].08. -/
def execHuffAc0_08 (s : State) : Host.Outcome State Fault Refusal := .next (s.putBits 0b1111110110 10)

/-- HUFF.HT_AC[0].23. -/
def execHuffAc0_23 (s : State) : Host.Outcome State Fault Refusal := .next (s.putBits 0b1111110111 10)

/-- HUFF.HT_AC[0].42. -/
def execHuffAc0_42 (s : State) : Host.Outcome State Fault Refusal := .next (s.putBits 0b1111111000 10)

/-- HUFF.HT_AC[0].B1. -/
def execHuffAc0_B1 (s : State) : Host.Outcome State Fault Refusal := .next (s.putBits 0b1111111001 10)

/-- HUFF.HT_AC[0].C1. -/
def execHuffAc0_C1 (s : State) : Host.Outcome State Fault Refusal := .next (s.putBits 0b1111111010 10)

/-- HUFF.HT_AC[0].15. -/
def execHuffAc0_15 (s : State) : Host.Outcome State Fault Refusal := .next (s.putBits 0b11111110110 11)

/-- HUFF.HT_AC[0].52. -/
def execHuffAc0_52 (s : State) : Host.Outcome State Fault Refusal := .next (s.putBits 0b11111110111 11)

/-- HUFF.HT_AC[0].D1. -/
def execHuffAc0_D1 (s : State) : Host.Outcome State Fault Refusal := .next (s.putBits 0b11111111000 11)

/-- HUFF.HT_AC[0].F0. -/
def execHuffAc0_F0 (s : State) : Host.Outcome State Fault Refusal := .next (s.putBits 0b11111111001 11)

/-- HUFF.HT_AC[0].24. -/
def execHuffAc0_24 (s : State) : Host.Outcome State Fault Refusal := .next (s.putBits 0b111111110100 12)

/-- HUFF.HT_AC[0].33. -/
def execHuffAc0_33 (s : State) : Host.Outcome State Fault Refusal := .next (s.putBits 0b111111110101 12)

/-- HUFF.HT_AC[0].62. -/
def execHuffAc0_62 (s : State) : Host.Outcome State Fault Refusal := .next (s.putBits 0b111111110110 12)

/-- HUFF.HT_AC[0].72. -/
def execHuffAc0_72 (s : State) : Host.Outcome State Fault Refusal := .next (s.putBits 0b111111110111 12)

/-- HUFF.HT_AC[0].82. -/
def execHuffAc0_82 (s : State) : Host.Outcome State Fault Refusal := .next (s.putBits 0b111111111000000 15)

/-- HUFF.HT_AC[0].09. -/
def execHuffAc0_09 (s : State) : Host.Outcome State Fault Refusal := .next (s.putBits 0b1111111110000010 16)

/-- HUFF.HT_AC[0].0A. -/
def execHuffAc0_0A (s : State) : Host.Outcome State Fault Refusal := .next (s.putBits 0b1111111110000011 16)

/-- HUFF.HT_AC[0].16. -/
def execHuffAc0_16 (s : State) : Host.Outcome State Fault Refusal := .next (s.putBits 0b1111111110000100 16)

/-- HUFF.HT_AC[0].17. -/
def execHuffAc0_17 (s : State) : Host.Outcome State Fault Refusal := .next (s.putBits 0b1111111110000101 16)

/-- HUFF.HT_AC[0].18. -/
def execHuffAc0_18 (s : State) : Host.Outcome State Fault Refusal := .next (s.putBits 0b1111111110000110 16)

/-- HUFF.HT_AC[0].19. -/
def execHuffAc0_19 (s : State) : Host.Outcome State Fault Refusal := .next (s.putBits 0b1111111110000111 16)

/-- HUFF.HT_AC[0].1A. -/
def execHuffAc0_1A (s : State) : Host.Outcome State Fault Refusal := .next (s.putBits 0b1111111110001000 16)

/-- HUFF.HT_AC[0].25. -/
def execHuffAc0_25 (s : State) : Host.Outcome State Fault Refusal := .next (s.putBits 0b1111111110001001 16)

/-- HUFF.HT_AC[0].26. -/
def execHuffAc0_26 (s : State) : Host.Outcome State Fault Refusal := .next (s.putBits 0b1111111110001010 16)

/-- HUFF.HT_AC[0].27. -/
def execHuffAc0_27 (s : State) : Host.Outcome State Fault Refusal := .next (s.putBits 0b1111111110001011 16)

/-- HUFF.HT_AC[0].28. -/
def execHuffAc0_28 (s : State) : Host.Outcome State Fault Refusal := .next (s.putBits 0b1111111110001100 16)

/-- HUFF.HT_AC[0].29. -/
def execHuffAc0_29 (s : State) : Host.Outcome State Fault Refusal := .next (s.putBits 0b1111111110001101 16)

/-- HUFF.HT_AC[0].2A. -/
def execHuffAc0_2A (s : State) : Host.Outcome State Fault Refusal := .next (s.putBits 0b1111111110001110 16)

/-- HUFF.HT_AC[0].34. -/
def execHuffAc0_34 (s : State) : Host.Outcome State Fault Refusal := .next (s.putBits 0b1111111110001111 16)

/-- HUFF.HT_AC[0].35. -/
def execHuffAc0_35 (s : State) : Host.Outcome State Fault Refusal := .next (s.putBits 0b1111111110010000 16)

/-- HUFF.HT_AC[0].36. -/
def execHuffAc0_36 (s : State) : Host.Outcome State Fault Refusal := .next (s.putBits 0b1111111110010001 16)

/-- HUFF.HT_AC[0].37. -/
def execHuffAc0_37 (s : State) : Host.Outcome State Fault Refusal := .next (s.putBits 0b1111111110010010 16)

/-- HUFF.HT_AC[0].38. -/
def execHuffAc0_38 (s : State) : Host.Outcome State Fault Refusal := .next (s.putBits 0b1111111110010011 16)

/-- HUFF.HT_AC[0].39. -/
def execHuffAc0_39 (s : State) : Host.Outcome State Fault Refusal := .next (s.putBits 0b1111111110010100 16)

/-- HUFF.HT_AC[0].3A. -/
def execHuffAc0_3A (s : State) : Host.Outcome State Fault Refusal := .next (s.putBits 0b1111111110010101 16)

/-- HUFF.HT_AC[0].43. -/
def execHuffAc0_43 (s : State) : Host.Outcome State Fault Refusal := .next (s.putBits 0b1111111110010110 16)

/-- HUFF.HT_AC[0].44. -/
def execHuffAc0_44 (s : State) : Host.Outcome State Fault Refusal := .next (s.putBits 0b1111111110010111 16)

/-- HUFF.HT_AC[0].45. -/
def execHuffAc0_45 (s : State) : Host.Outcome State Fault Refusal := .next (s.putBits 0b1111111110011000 16)

/-- HUFF.HT_AC[0].46. -/
def execHuffAc0_46 (s : State) : Host.Outcome State Fault Refusal := .next (s.putBits 0b1111111110011001 16)

/-- HUFF.HT_AC[0].47. -/
def execHuffAc0_47 (s : State) : Host.Outcome State Fault Refusal := .next (s.putBits 0b1111111110011010 16)

/-- HUFF.HT_AC[0].48. -/
def execHuffAc0_48 (s : State) : Host.Outcome State Fault Refusal := .next (s.putBits 0b1111111110011011 16)

/-- HUFF.HT_AC[0].49. -/
def execHuffAc0_49 (s : State) : Host.Outcome State Fault Refusal := .next (s.putBits 0b1111111110011100 16)

/-- HUFF.HT_AC[0].4A. -/
def execHuffAc0_4A (s : State) : Host.Outcome State Fault Refusal := .next (s.putBits 0b1111111110011101 16)

/-- HUFF.HT_AC[0].53. -/
def execHuffAc0_53 (s : State) : Host.Outcome State Fault Refusal := .next (s.putBits 0b1111111110011110 16)

/-- HUFF.HT_AC[0].54. -/
def execHuffAc0_54 (s : State) : Host.Outcome State Fault Refusal := .next (s.putBits 0b1111111110011111 16)

/-- HUFF.HT_AC[0].55. -/
def execHuffAc0_55 (s : State) : Host.Outcome State Fault Refusal := .next (s.putBits 0b1111111110100000 16)

/-- HUFF.HT_AC[0].56. -/
def execHuffAc0_56 (s : State) : Host.Outcome State Fault Refusal := .next (s.putBits 0b1111111110100001 16)

/-- HUFF.HT_AC[0].57. -/
def execHuffAc0_57 (s : State) : Host.Outcome State Fault Refusal := .next (s.putBits 0b1111111110100010 16)

/-- HUFF.HT_AC[0].58. -/
def execHuffAc0_58 (s : State) : Host.Outcome State Fault Refusal := .next (s.putBits 0b1111111110100011 16)

/-- HUFF.HT_AC[0].59. -/
def execHuffAc0_59 (s : State) : Host.Outcome State Fault Refusal := .next (s.putBits 0b1111111110100100 16)

/-- HUFF.HT_AC[0].5A. -/
def execHuffAc0_5A (s : State) : Host.Outcome State Fault Refusal := .next (s.putBits 0b1111111110100101 16)

/-- HUFF.HT_AC[0].63. -/
def execHuffAc0_63 (s : State) : Host.Outcome State Fault Refusal := .next (s.putBits 0b1111111110100110 16)

/-- HUFF.HT_AC[0].64. -/
def execHuffAc0_64 (s : State) : Host.Outcome State Fault Refusal := .next (s.putBits 0b1111111110100111 16)

/-- HUFF.HT_AC[0].65. -/
def execHuffAc0_65 (s : State) : Host.Outcome State Fault Refusal := .next (s.putBits 0b1111111110101000 16)

/-- HUFF.HT_AC[0].66. -/
def execHuffAc0_66 (s : State) : Host.Outcome State Fault Refusal := .next (s.putBits 0b1111111110101001 16)

/-- HUFF.HT_AC[0].67. -/
def execHuffAc0_67 (s : State) : Host.Outcome State Fault Refusal := .next (s.putBits 0b1111111110101010 16)

/-- HUFF.HT_AC[0].68. -/
def execHuffAc0_68 (s : State) : Host.Outcome State Fault Refusal := .next (s.putBits 0b1111111110101011 16)

/-- HUFF.HT_AC[0].69. -/
def execHuffAc0_69 (s : State) : Host.Outcome State Fault Refusal := .next (s.putBits 0b1111111110101100 16)

/-- HUFF.HT_AC[0].6A. -/
def execHuffAc0_6A (s : State) : Host.Outcome State Fault Refusal := .next (s.putBits 0b1111111110101101 16)

/-- HUFF.HT_AC[0].73. -/
def execHuffAc0_73 (s : State) : Host.Outcome State Fault Refusal := .next (s.putBits 0b1111111110101110 16)

/-- HUFF.HT_AC[0].74. -/
def execHuffAc0_74 (s : State) : Host.Outcome State Fault Refusal := .next (s.putBits 0b1111111110101111 16)

/-- HUFF.HT_AC[0].75. -/
def execHuffAc0_75 (s : State) : Host.Outcome State Fault Refusal := .next (s.putBits 0b1111111110110000 16)

/-- HUFF.HT_AC[0].76. -/
def execHuffAc0_76 (s : State) : Host.Outcome State Fault Refusal := .next (s.putBits 0b1111111110110001 16)

/-- HUFF.HT_AC[0].77. -/
def execHuffAc0_77 (s : State) : Host.Outcome State Fault Refusal := .next (s.putBits 0b1111111110110010 16)

/-- HUFF.HT_AC[0].78. -/
def execHuffAc0_78 (s : State) : Host.Outcome State Fault Refusal := .next (s.putBits 0b1111111110110011 16)

/-- HUFF.HT_AC[0].79. -/
def execHuffAc0_79 (s : State) : Host.Outcome State Fault Refusal := .next (s.putBits 0b1111111110110100 16)

/-- HUFF.HT_AC[0].7A. -/
def execHuffAc0_7A (s : State) : Host.Outcome State Fault Refusal := .next (s.putBits 0b1111111110110101 16)

/-- HUFF.HT_AC[0].83. -/
def execHuffAc0_83 (s : State) : Host.Outcome State Fault Refusal := .next (s.putBits 0b1111111110110110 16)

/-- HUFF.HT_AC[0].84. -/
def execHuffAc0_84 (s : State) : Host.Outcome State Fault Refusal := .next (s.putBits 0b1111111110110111 16)

/-- HUFF.HT_AC[0].85. -/
def execHuffAc0_85 (s : State) : Host.Outcome State Fault Refusal := .next (s.putBits 0b1111111110111000 16)

/-- HUFF.HT_AC[0].86. -/
def execHuffAc0_86 (s : State) : Host.Outcome State Fault Refusal := .next (s.putBits 0b1111111110111001 16)

/-- HUFF.HT_AC[0].87. -/
def execHuffAc0_87 (s : State) : Host.Outcome State Fault Refusal := .next (s.putBits 0b1111111110111010 16)

/-- HUFF.HT_AC[0].88. -/
def execHuffAc0_88 (s : State) : Host.Outcome State Fault Refusal := .next (s.putBits 0b1111111110111011 16)

/-- HUFF.HT_AC[0].89. -/
def execHuffAc0_89 (s : State) : Host.Outcome State Fault Refusal := .next (s.putBits 0b1111111110111100 16)

/-- HUFF.HT_AC[0].8A. -/
def execHuffAc0_8A (s : State) : Host.Outcome State Fault Refusal := .next (s.putBits 0b1111111110111101 16)

/-- HUFF.HT_AC[0].92. -/
def execHuffAc0_92 (s : State) : Host.Outcome State Fault Refusal := .next (s.putBits 0b1111111110111110 16)

/-- HUFF.HT_AC[0].93. -/
def execHuffAc0_93 (s : State) : Host.Outcome State Fault Refusal := .next (s.putBits 0b1111111110111111 16)

/-- HUFF.HT_AC[0].94. -/
def execHuffAc0_94 (s : State) : Host.Outcome State Fault Refusal := .next (s.putBits 0b1111111111000000 16)

/-- HUFF.HT_AC[0].95. -/
def execHuffAc0_95 (s : State) : Host.Outcome State Fault Refusal := .next (s.putBits 0b1111111111000001 16)

/-- HUFF.HT_AC[0].96. -/
def execHuffAc0_96 (s : State) : Host.Outcome State Fault Refusal := .next (s.putBits 0b1111111111000010 16)

/-- HUFF.HT_AC[0].97. -/
def execHuffAc0_97 (s : State) : Host.Outcome State Fault Refusal := .next (s.putBits 0b1111111111000011 16)

/-- HUFF.HT_AC[0].98. -/
def execHuffAc0_98 (s : State) : Host.Outcome State Fault Refusal := .next (s.putBits 0b1111111111000100 16)

/-- HUFF.HT_AC[0].99. -/
def execHuffAc0_99 (s : State) : Host.Outcome State Fault Refusal := .next (s.putBits 0b1111111111000101 16)

/-- HUFF.HT_AC[0].9A. -/
def execHuffAc0_9A (s : State) : Host.Outcome State Fault Refusal := .next (s.putBits 0b1111111111000110 16)

/-- HUFF.HT_AC[0].A2. -/
def execHuffAc0_A2 (s : State) : Host.Outcome State Fault Refusal := .next (s.putBits 0b1111111111000111 16)

/-- HUFF.HT_AC[0].A3. -/
def execHuffAc0_A3 (s : State) : Host.Outcome State Fault Refusal := .next (s.putBits 0b1111111111001000 16)

/-- HUFF.HT_AC[0].A4. -/
def execHuffAc0_A4 (s : State) : Host.Outcome State Fault Refusal := .next (s.putBits 0b1111111111001001 16)

/-- HUFF.HT_AC[0].A5. -/
def execHuffAc0_A5 (s : State) : Host.Outcome State Fault Refusal := .next (s.putBits 0b1111111111001010 16)

/-- HUFF.HT_AC[0].A6. -/
def execHuffAc0_A6 (s : State) : Host.Outcome State Fault Refusal := .next (s.putBits 0b1111111111001011 16)

/-- HUFF.HT_AC[0].A7. -/
def execHuffAc0_A7 (s : State) : Host.Outcome State Fault Refusal := .next (s.putBits 0b1111111111001100 16)

/-- HUFF.HT_AC[0].A8. -/
def execHuffAc0_A8 (s : State) : Host.Outcome State Fault Refusal := .next (s.putBits 0b1111111111001101 16)

/-- HUFF.HT_AC[0].A9. -/
def execHuffAc0_A9 (s : State) : Host.Outcome State Fault Refusal := .next (s.putBits 0b1111111111001110 16)

/-- HUFF.HT_AC[0].AA. -/
def execHuffAc0_AA (s : State) : Host.Outcome State Fault Refusal := .next (s.putBits 0b1111111111001111 16)

/-- HUFF.HT_AC[0].B2. -/
def execHuffAc0_B2 (s : State) : Host.Outcome State Fault Refusal := .next (s.putBits 0b1111111111010000 16)

/-- HUFF.HT_AC[0].B3. -/
def execHuffAc0_B3 (s : State) : Host.Outcome State Fault Refusal := .next (s.putBits 0b1111111111010001 16)

/-- HUFF.HT_AC[0].B4. -/
def execHuffAc0_B4 (s : State) : Host.Outcome State Fault Refusal := .next (s.putBits 0b1111111111010010 16)

/-- HUFF.HT_AC[0].B5. -/
def execHuffAc0_B5 (s : State) : Host.Outcome State Fault Refusal := .next (s.putBits 0b1111111111010011 16)

/-- HUFF.HT_AC[0].B6. -/
def execHuffAc0_B6 (s : State) : Host.Outcome State Fault Refusal := .next (s.putBits 0b1111111111010100 16)

/-- HUFF.HT_AC[0].B7. -/
def execHuffAc0_B7 (s : State) : Host.Outcome State Fault Refusal := .next (s.putBits 0b1111111111010101 16)

/-- HUFF.HT_AC[0].B8. -/
def execHuffAc0_B8 (s : State) : Host.Outcome State Fault Refusal := .next (s.putBits 0b1111111111010110 16)

/-- HUFF.HT_AC[0].B9. -/
def execHuffAc0_B9 (s : State) : Host.Outcome State Fault Refusal := .next (s.putBits 0b1111111111010111 16)

/-- HUFF.HT_AC[0].BA. -/
def execHuffAc0_BA (s : State) : Host.Outcome State Fault Refusal := .next (s.putBits 0b1111111111011000 16)

/-- HUFF.HT_AC[0].C2. -/
def execHuffAc0_C2 (s : State) : Host.Outcome State Fault Refusal := .next (s.putBits 0b1111111111011001 16)

/-- HUFF.HT_AC[0].C3. -/
def execHuffAc0_C3 (s : State) : Host.Outcome State Fault Refusal := .next (s.putBits 0b1111111111011010 16)

/-- HUFF.HT_AC[0].C4. -/
def execHuffAc0_C4 (s : State) : Host.Outcome State Fault Refusal := .next (s.putBits 0b1111111111011011 16)

/-- HUFF.HT_AC[0].C5. -/
def execHuffAc0_C5 (s : State) : Host.Outcome State Fault Refusal := .next (s.putBits 0b1111111111011100 16)

/-- HUFF.HT_AC[0].C6. -/
def execHuffAc0_C6 (s : State) : Host.Outcome State Fault Refusal := .next (s.putBits 0b1111111111011101 16)

/-- HUFF.HT_AC[0].C7. -/
def execHuffAc0_C7 (s : State) : Host.Outcome State Fault Refusal := .next (s.putBits 0b1111111111011110 16)

/-- HUFF.HT_AC[0].C8. -/
def execHuffAc0_C8 (s : State) : Host.Outcome State Fault Refusal := .next (s.putBits 0b1111111111011111 16)

/-- HUFF.HT_AC[0].C9. -/
def execHuffAc0_C9 (s : State) : Host.Outcome State Fault Refusal := .next (s.putBits 0b1111111111100000 16)

/-- HUFF.HT_AC[0].CA. -/
def execHuffAc0_CA (s : State) : Host.Outcome State Fault Refusal := .next (s.putBits 0b1111111111100001 16)

/-- HUFF.HT_AC[0].D2. -/
def execHuffAc0_D2 (s : State) : Host.Outcome State Fault Refusal := .next (s.putBits 0b1111111111100010 16)

/-- HUFF.HT_AC[0].D3. -/
def execHuffAc0_D3 (s : State) : Host.Outcome State Fault Refusal := .next (s.putBits 0b1111111111100011 16)

/-- HUFF.HT_AC[0].D4. -/
def execHuffAc0_D4 (s : State) : Host.Outcome State Fault Refusal := .next (s.putBits 0b1111111111100100 16)

/-- HUFF.HT_AC[0].D5. -/
def execHuffAc0_D5 (s : State) : Host.Outcome State Fault Refusal := .next (s.putBits 0b1111111111100101 16)

/-- HUFF.HT_AC[0].D6. -/
def execHuffAc0_D6 (s : State) : Host.Outcome State Fault Refusal := .next (s.putBits 0b1111111111100110 16)

/-- HUFF.HT_AC[0].D7. -/
def execHuffAc0_D7 (s : State) : Host.Outcome State Fault Refusal := .next (s.putBits 0b1111111111100111 16)

/-- HUFF.HT_AC[0].D8. -/
def execHuffAc0_D8 (s : State) : Host.Outcome State Fault Refusal := .next (s.putBits 0b1111111111101000 16)

/-- HUFF.HT_AC[0].D9. -/
def execHuffAc0_D9 (s : State) : Host.Outcome State Fault Refusal := .next (s.putBits 0b1111111111101001 16)

/-- HUFF.HT_AC[0].DA. -/
def execHuffAc0_DA (s : State) : Host.Outcome State Fault Refusal := .next (s.putBits 0b1111111111101010 16)

/-- HUFF.HT_AC[0].E1. -/
def execHuffAc0_E1 (s : State) : Host.Outcome State Fault Refusal := .next (s.putBits 0b1111111111101011 16)

/-- HUFF.HT_AC[0].E2. -/
def execHuffAc0_E2 (s : State) : Host.Outcome State Fault Refusal := .next (s.putBits 0b1111111111101100 16)

/-- HUFF.HT_AC[0].E3. -/
def execHuffAc0_E3 (s : State) : Host.Outcome State Fault Refusal := .next (s.putBits 0b1111111111101101 16)

/-- HUFF.HT_AC[0].E4. -/
def execHuffAc0_E4 (s : State) : Host.Outcome State Fault Refusal := .next (s.putBits 0b1111111111101110 16)

/-- HUFF.HT_AC[0].E5. -/
def execHuffAc0_E5 (s : State) : Host.Outcome State Fault Refusal := .next (s.putBits 0b1111111111101111 16)

/-- HUFF.HT_AC[0].E6. -/
def execHuffAc0_E6 (s : State) : Host.Outcome State Fault Refusal := .next (s.putBits 0b1111111111110000 16)

/-- HUFF.HT_AC[0].E7. -/
def execHuffAc0_E7 (s : State) : Host.Outcome State Fault Refusal := .next (s.putBits 0b1111111111110001 16)

/-- HUFF.HT_AC[0].E8. -/
def execHuffAc0_E8 (s : State) : Host.Outcome State Fault Refusal := .next (s.putBits 0b1111111111110010 16)

/-- HUFF.HT_AC[0].E9. -/
def execHuffAc0_E9 (s : State) : Host.Outcome State Fault Refusal := .next (s.putBits 0b1111111111110011 16)

/-- HUFF.HT_AC[0].EA. -/
def execHuffAc0_EA (s : State) : Host.Outcome State Fault Refusal := .next (s.putBits 0b1111111111110100 16)

/-- HUFF.HT_AC[0].F1. -/
def execHuffAc0_F1 (s : State) : Host.Outcome State Fault Refusal := .next (s.putBits 0b1111111111110101 16)

/-- HUFF.HT_AC[0].F2. -/
def execHuffAc0_F2 (s : State) : Host.Outcome State Fault Refusal := .next (s.putBits 0b1111111111110110 16)

/-- HUFF.HT_AC[0].F3. -/
def execHuffAc0_F3 (s : State) : Host.Outcome State Fault Refusal := .next (s.putBits 0b1111111111110111 16)

/-- HUFF.HT_AC[0].F4. -/
def execHuffAc0_F4 (s : State) : Host.Outcome State Fault Refusal := .next (s.putBits 0b1111111111111000 16)

/-- HUFF.HT_AC[0].F5. -/
def execHuffAc0_F5 (s : State) : Host.Outcome State Fault Refusal := .next (s.putBits 0b1111111111111001 16)

/-- HUFF.HT_AC[0].F6. -/
def execHuffAc0_F6 (s : State) : Host.Outcome State Fault Refusal := .next (s.putBits 0b1111111111111010 16)

/-- HUFF.HT_AC[0].F7. -/
def execHuffAc0_F7 (s : State) : Host.Outcome State Fault Refusal := .next (s.putBits 0b1111111111111011 16)

/-- HUFF.HT_AC[0].F8. -/
def execHuffAc0_F8 (s : State) : Host.Outcome State Fault Refusal := .next (s.putBits 0b1111111111111100 16)

/-- HUFF.HT_AC[0].F9. -/
def execHuffAc0_F9 (s : State) : Host.Outcome State Fault Refusal := .next (s.putBits 0b1111111111111101 16)

/-- HUFF.HT_AC[0].FA. -/
def execHuffAc0_FA (s : State) : Host.Outcome State Fault Refusal := .next (s.putBits 0b1111111111111110 16)

/-- HUFF.HT_DC[1].00. -/
def execHuffDc1_00 (s : State) : Host.Outcome State Fault Refusal := .next (s.putBits 0b00 2)

/-- HUFF.HT_DC[1].01. -/
def execHuffDc1_01 (s : State) : Host.Outcome State Fault Refusal := .next (s.putBits 0b01 2)

/-- HUFF.HT_DC[1].02. -/
def execHuffDc1_02 (s : State) : Host.Outcome State Fault Refusal := .next (s.putBits 0b10 2)

/-- HUFF.HT_DC[1].03. -/
def execHuffDc1_03 (s : State) : Host.Outcome State Fault Refusal := .next (s.putBits 0b110 3)

/-- HUFF.HT_DC[1].04. -/
def execHuffDc1_04 (s : State) : Host.Outcome State Fault Refusal := .next (s.putBits 0b1110 4)

/-- HUFF.HT_DC[1].05. -/
def execHuffDc1_05 (s : State) : Host.Outcome State Fault Refusal := .next (s.putBits 0b11110 5)

/-- HUFF.HT_DC[1].06. -/
def execHuffDc1_06 (s : State) : Host.Outcome State Fault Refusal := .next (s.putBits 0b111110 6)

/-- HUFF.HT_DC[1].07. -/
def execHuffDc1_07 (s : State) : Host.Outcome State Fault Refusal := .next (s.putBits 0b1111110 7)

/-- HUFF.HT_DC[1].08. -/
def execHuffDc1_08 (s : State) : Host.Outcome State Fault Refusal := .next (s.putBits 0b11111110 8)

/-- HUFF.HT_DC[1].09. -/
def execHuffDc1_09 (s : State) : Host.Outcome State Fault Refusal := .next (s.putBits 0b111111110 9)

/-- HUFF.HT_DC[1].0A. -/
def execHuffDc1_0A (s : State) : Host.Outcome State Fault Refusal := .next (s.putBits 0b1111111110 10)

/-- HUFF.HT_DC[1].0B. -/
def execHuffDc1_0B (s : State) : Host.Outcome State Fault Refusal := .next (s.putBits 0b11111111110 11)

/-- HUFF.HT_AC[1].00. -/
def execHuffAc1_00 (s : State) : Host.Outcome State Fault Refusal := .next (s.putBits 0b00 2)

/-- HUFF.HT_AC[1].01. -/
def execHuffAc1_01 (s : State) : Host.Outcome State Fault Refusal := .next (s.putBits 0b01 2)

/-- HUFF.HT_AC[1].02. -/
def execHuffAc1_02 (s : State) : Host.Outcome State Fault Refusal := .next (s.putBits 0b100 3)

/-- HUFF.HT_AC[1].03. -/
def execHuffAc1_03 (s : State) : Host.Outcome State Fault Refusal := .next (s.putBits 0b1010 4)

/-- HUFF.HT_AC[1].11. -/
def execHuffAc1_11 (s : State) : Host.Outcome State Fault Refusal := .next (s.putBits 0b1011 4)

/-- HUFF.HT_AC[1].04. -/
def execHuffAc1_04 (s : State) : Host.Outcome State Fault Refusal := .next (s.putBits 0b11000 5)

/-- HUFF.HT_AC[1].05. -/
def execHuffAc1_05 (s : State) : Host.Outcome State Fault Refusal := .next (s.putBits 0b11001 5)

/-- HUFF.HT_AC[1].21. -/
def execHuffAc1_21 (s : State) : Host.Outcome State Fault Refusal := .next (s.putBits 0b11010 5)

/-- HUFF.HT_AC[1].31. -/
def execHuffAc1_31 (s : State) : Host.Outcome State Fault Refusal := .next (s.putBits 0b11011 5)

/-- HUFF.HT_AC[1].06. -/
def execHuffAc1_06 (s : State) : Host.Outcome State Fault Refusal := .next (s.putBits 0b111000 6)

/-- HUFF.HT_AC[1].12. -/
def execHuffAc1_12 (s : State) : Host.Outcome State Fault Refusal := .next (s.putBits 0b111001 6)

/-- HUFF.HT_AC[1].41. -/
def execHuffAc1_41 (s : State) : Host.Outcome State Fault Refusal := .next (s.putBits 0b111010 6)

/-- HUFF.HT_AC[1].51. -/
def execHuffAc1_51 (s : State) : Host.Outcome State Fault Refusal := .next (s.putBits 0b111011 6)

/-- HUFF.HT_AC[1].07. -/
def execHuffAc1_07 (s : State) : Host.Outcome State Fault Refusal := .next (s.putBits 0b1111000 7)

/-- HUFF.HT_AC[1].61. -/
def execHuffAc1_61 (s : State) : Host.Outcome State Fault Refusal := .next (s.putBits 0b1111001 7)

/-- HUFF.HT_AC[1].71. -/
def execHuffAc1_71 (s : State) : Host.Outcome State Fault Refusal := .next (s.putBits 0b1111010 7)

/-- HUFF.HT_AC[1].13. -/
def execHuffAc1_13 (s : State) : Host.Outcome State Fault Refusal := .next (s.putBits 0b11110110 8)

/-- HUFF.HT_AC[1].22. -/
def execHuffAc1_22 (s : State) : Host.Outcome State Fault Refusal := .next (s.putBits 0b11110111 8)

/-- HUFF.HT_AC[1].32. -/
def execHuffAc1_32 (s : State) : Host.Outcome State Fault Refusal := .next (s.putBits 0b11111000 8)

/-- HUFF.HT_AC[1].81. -/
def execHuffAc1_81 (s : State) : Host.Outcome State Fault Refusal := .next (s.putBits 0b11111001 8)

/-- HUFF.HT_AC[1].08. -/
def execHuffAc1_08 (s : State) : Host.Outcome State Fault Refusal := .next (s.putBits 0b111110100 9)

/-- HUFF.HT_AC[1].14. -/
def execHuffAc1_14 (s : State) : Host.Outcome State Fault Refusal := .next (s.putBits 0b111110101 9)

/-- HUFF.HT_AC[1].42. -/
def execHuffAc1_42 (s : State) : Host.Outcome State Fault Refusal := .next (s.putBits 0b111110110 9)

/-- HUFF.HT_AC[1].91. -/
def execHuffAc1_91 (s : State) : Host.Outcome State Fault Refusal := .next (s.putBits 0b111110111 9)

/-- HUFF.HT_AC[1].A1. -/
def execHuffAc1_A1 (s : State) : Host.Outcome State Fault Refusal := .next (s.putBits 0b111111000 9)

/-- HUFF.HT_AC[1].B1. -/
def execHuffAc1_B1 (s : State) : Host.Outcome State Fault Refusal := .next (s.putBits 0b111111001 9)

/-- HUFF.HT_AC[1].C1. -/
def execHuffAc1_C1 (s : State) : Host.Outcome State Fault Refusal := .next (s.putBits 0b111111010 9)

/-- HUFF.HT_AC[1].09. -/
def execHuffAc1_09 (s : State) : Host.Outcome State Fault Refusal := .next (s.putBits 0b1111110110 10)

/-- HUFF.HT_AC[1].23. -/
def execHuffAc1_23 (s : State) : Host.Outcome State Fault Refusal := .next (s.putBits 0b1111110111 10)

/-- HUFF.HT_AC[1].33. -/
def execHuffAc1_33 (s : State) : Host.Outcome State Fault Refusal := .next (s.putBits 0b1111111000 10)

/-- HUFF.HT_AC[1].52. -/
def execHuffAc1_52 (s : State) : Host.Outcome State Fault Refusal := .next (s.putBits 0b1111111001 10)

/-- HUFF.HT_AC[1].F0. -/
def execHuffAc1_F0 (s : State) : Host.Outcome State Fault Refusal := .next (s.putBits 0b1111111010 10)

/-- HUFF.HT_AC[1].15. -/
def execHuffAc1_15 (s : State) : Host.Outcome State Fault Refusal := .next (s.putBits 0b11111110110 11)

/-- HUFF.HT_AC[1].62. -/
def execHuffAc1_62 (s : State) : Host.Outcome State Fault Refusal := .next (s.putBits 0b11111110111 11)

/-- HUFF.HT_AC[1].72. -/
def execHuffAc1_72 (s : State) : Host.Outcome State Fault Refusal := .next (s.putBits 0b11111111000 11)

/-- HUFF.HT_AC[1].D1. -/
def execHuffAc1_D1 (s : State) : Host.Outcome State Fault Refusal := .next (s.putBits 0b11111111001 11)

/-- HUFF.HT_AC[1].0A. -/
def execHuffAc1_0A (s : State) : Host.Outcome State Fault Refusal := .next (s.putBits 0b111111110100 12)

/-- HUFF.HT_AC[1].16. -/
def execHuffAc1_16 (s : State) : Host.Outcome State Fault Refusal := .next (s.putBits 0b111111110101 12)

/-- HUFF.HT_AC[1].24. -/
def execHuffAc1_24 (s : State) : Host.Outcome State Fault Refusal := .next (s.putBits 0b111111110110 12)

/-- HUFF.HT_AC[1].34. -/
def execHuffAc1_34 (s : State) : Host.Outcome State Fault Refusal := .next (s.putBits 0b111111110111 12)

/-- HUFF.HT_AC[1].E1. -/
def execHuffAc1_E1 (s : State) : Host.Outcome State Fault Refusal := .next (s.putBits 0b11111111100000 14)

/-- HUFF.HT_AC[1].25. -/
def execHuffAc1_25 (s : State) : Host.Outcome State Fault Refusal := .next (s.putBits 0b111111111000010 15)

/-- HUFF.HT_AC[1].F1. -/
def execHuffAc1_F1 (s : State) : Host.Outcome State Fault Refusal := .next (s.putBits 0b111111111000011 15)

/-- HUFF.HT_AC[1].17. -/
def execHuffAc1_17 (s : State) : Host.Outcome State Fault Refusal := .next (s.putBits 0b1111111110001000 16)

/-- HUFF.HT_AC[1].18. -/
def execHuffAc1_18 (s : State) : Host.Outcome State Fault Refusal := .next (s.putBits 0b1111111110001001 16)

/-- HUFF.HT_AC[1].19. -/
def execHuffAc1_19 (s : State) : Host.Outcome State Fault Refusal := .next (s.putBits 0b1111111110001010 16)

/-- HUFF.HT_AC[1].1A. -/
def execHuffAc1_1A (s : State) : Host.Outcome State Fault Refusal := .next (s.putBits 0b1111111110001011 16)

/-- HUFF.HT_AC[1].26. -/
def execHuffAc1_26 (s : State) : Host.Outcome State Fault Refusal := .next (s.putBits 0b1111111110001100 16)

/-- HUFF.HT_AC[1].27. -/
def execHuffAc1_27 (s : State) : Host.Outcome State Fault Refusal := .next (s.putBits 0b1111111110001101 16)

/-- HUFF.HT_AC[1].28. -/
def execHuffAc1_28 (s : State) : Host.Outcome State Fault Refusal := .next (s.putBits 0b1111111110001110 16)

/-- HUFF.HT_AC[1].29. -/
def execHuffAc1_29 (s : State) : Host.Outcome State Fault Refusal := .next (s.putBits 0b1111111110001111 16)

/-- HUFF.HT_AC[1].2A. -/
def execHuffAc1_2A (s : State) : Host.Outcome State Fault Refusal := .next (s.putBits 0b1111111110010000 16)

/-- HUFF.HT_AC[1].35. -/
def execHuffAc1_35 (s : State) : Host.Outcome State Fault Refusal := .next (s.putBits 0b1111111110010001 16)

/-- HUFF.HT_AC[1].36. -/
def execHuffAc1_36 (s : State) : Host.Outcome State Fault Refusal := .next (s.putBits 0b1111111110010010 16)

/-- HUFF.HT_AC[1].37. -/
def execHuffAc1_37 (s : State) : Host.Outcome State Fault Refusal := .next (s.putBits 0b1111111110010011 16)

/-- HUFF.HT_AC[1].38. -/
def execHuffAc1_38 (s : State) : Host.Outcome State Fault Refusal := .next (s.putBits 0b1111111110010100 16)

/-- HUFF.HT_AC[1].39. -/
def execHuffAc1_39 (s : State) : Host.Outcome State Fault Refusal := .next (s.putBits 0b1111111110010101 16)

/-- HUFF.HT_AC[1].3A. -/
def execHuffAc1_3A (s : State) : Host.Outcome State Fault Refusal := .next (s.putBits 0b1111111110010110 16)

/-- HUFF.HT_AC[1].43. -/
def execHuffAc1_43 (s : State) : Host.Outcome State Fault Refusal := .next (s.putBits 0b1111111110010111 16)

/-- HUFF.HT_AC[1].44. -/
def execHuffAc1_44 (s : State) : Host.Outcome State Fault Refusal := .next (s.putBits 0b1111111110011000 16)

/-- HUFF.HT_AC[1].45. -/
def execHuffAc1_45 (s : State) : Host.Outcome State Fault Refusal := .next (s.putBits 0b1111111110011001 16)

/-- HUFF.HT_AC[1].46. -/
def execHuffAc1_46 (s : State) : Host.Outcome State Fault Refusal := .next (s.putBits 0b1111111110011010 16)

/-- HUFF.HT_AC[1].47. -/
def execHuffAc1_47 (s : State) : Host.Outcome State Fault Refusal := .next (s.putBits 0b1111111110011011 16)

/-- HUFF.HT_AC[1].48. -/
def execHuffAc1_48 (s : State) : Host.Outcome State Fault Refusal := .next (s.putBits 0b1111111110011100 16)

/-- HUFF.HT_AC[1].49. -/
def execHuffAc1_49 (s : State) : Host.Outcome State Fault Refusal := .next (s.putBits 0b1111111110011101 16)

/-- HUFF.HT_AC[1].4A. -/
def execHuffAc1_4A (s : State) : Host.Outcome State Fault Refusal := .next (s.putBits 0b1111111110011110 16)

/-- HUFF.HT_AC[1].53. -/
def execHuffAc1_53 (s : State) : Host.Outcome State Fault Refusal := .next (s.putBits 0b1111111110011111 16)

/-- HUFF.HT_AC[1].54. -/
def execHuffAc1_54 (s : State) : Host.Outcome State Fault Refusal := .next (s.putBits 0b1111111110100000 16)

/-- HUFF.HT_AC[1].55. -/
def execHuffAc1_55 (s : State) : Host.Outcome State Fault Refusal := .next (s.putBits 0b1111111110100001 16)

/-- HUFF.HT_AC[1].56. -/
def execHuffAc1_56 (s : State) : Host.Outcome State Fault Refusal := .next (s.putBits 0b1111111110100010 16)

/-- HUFF.HT_AC[1].57. -/
def execHuffAc1_57 (s : State) : Host.Outcome State Fault Refusal := .next (s.putBits 0b1111111110100011 16)

/-- HUFF.HT_AC[1].58. -/
def execHuffAc1_58 (s : State) : Host.Outcome State Fault Refusal := .next (s.putBits 0b1111111110100100 16)

/-- HUFF.HT_AC[1].59. -/
def execHuffAc1_59 (s : State) : Host.Outcome State Fault Refusal := .next (s.putBits 0b1111111110100101 16)

/-- HUFF.HT_AC[1].5A. -/
def execHuffAc1_5A (s : State) : Host.Outcome State Fault Refusal := .next (s.putBits 0b1111111110100110 16)

/-- HUFF.HT_AC[1].63. -/
def execHuffAc1_63 (s : State) : Host.Outcome State Fault Refusal := .next (s.putBits 0b1111111110100111 16)

/-- HUFF.HT_AC[1].64. -/
def execHuffAc1_64 (s : State) : Host.Outcome State Fault Refusal := .next (s.putBits 0b1111111110101000 16)

/-- HUFF.HT_AC[1].65. -/
def execHuffAc1_65 (s : State) : Host.Outcome State Fault Refusal := .next (s.putBits 0b1111111110101001 16)

/-- HUFF.HT_AC[1].66. -/
def execHuffAc1_66 (s : State) : Host.Outcome State Fault Refusal := .next (s.putBits 0b1111111110101010 16)

/-- HUFF.HT_AC[1].67. -/
def execHuffAc1_67 (s : State) : Host.Outcome State Fault Refusal := .next (s.putBits 0b1111111110101011 16)

/-- HUFF.HT_AC[1].68. -/
def execHuffAc1_68 (s : State) : Host.Outcome State Fault Refusal := .next (s.putBits 0b1111111110101100 16)

/-- HUFF.HT_AC[1].69. -/
def execHuffAc1_69 (s : State) : Host.Outcome State Fault Refusal := .next (s.putBits 0b1111111110101101 16)

/-- HUFF.HT_AC[1].6A. -/
def execHuffAc1_6A (s : State) : Host.Outcome State Fault Refusal := .next (s.putBits 0b1111111110101110 16)

/-- HUFF.HT_AC[1].73. -/
def execHuffAc1_73 (s : State) : Host.Outcome State Fault Refusal := .next (s.putBits 0b1111111110101111 16)

/-- HUFF.HT_AC[1].74. -/
def execHuffAc1_74 (s : State) : Host.Outcome State Fault Refusal := .next (s.putBits 0b1111111110110000 16)

/-- HUFF.HT_AC[1].75. -/
def execHuffAc1_75 (s : State) : Host.Outcome State Fault Refusal := .next (s.putBits 0b1111111110110001 16)

/-- HUFF.HT_AC[1].76. -/
def execHuffAc1_76 (s : State) : Host.Outcome State Fault Refusal := .next (s.putBits 0b1111111110110010 16)

/-- HUFF.HT_AC[1].77. -/
def execHuffAc1_77 (s : State) : Host.Outcome State Fault Refusal := .next (s.putBits 0b1111111110110011 16)

/-- HUFF.HT_AC[1].78. -/
def execHuffAc1_78 (s : State) : Host.Outcome State Fault Refusal := .next (s.putBits 0b1111111110110100 16)

/-- HUFF.HT_AC[1].79. -/
def execHuffAc1_79 (s : State) : Host.Outcome State Fault Refusal := .next (s.putBits 0b1111111110110101 16)

/-- HUFF.HT_AC[1].7A. -/
def execHuffAc1_7A (s : State) : Host.Outcome State Fault Refusal := .next (s.putBits 0b1111111110110110 16)

/-- HUFF.HT_AC[1].82. -/
def execHuffAc1_82 (s : State) : Host.Outcome State Fault Refusal := .next (s.putBits 0b1111111110110111 16)

/-- HUFF.HT_AC[1].83. -/
def execHuffAc1_83 (s : State) : Host.Outcome State Fault Refusal := .next (s.putBits 0b1111111110111000 16)

/-- HUFF.HT_AC[1].84. -/
def execHuffAc1_84 (s : State) : Host.Outcome State Fault Refusal := .next (s.putBits 0b1111111110111001 16)

/-- HUFF.HT_AC[1].85. -/
def execHuffAc1_85 (s : State) : Host.Outcome State Fault Refusal := .next (s.putBits 0b1111111110111010 16)

/-- HUFF.HT_AC[1].86. -/
def execHuffAc1_86 (s : State) : Host.Outcome State Fault Refusal := .next (s.putBits 0b1111111110111011 16)

/-- HUFF.HT_AC[1].87. -/
def execHuffAc1_87 (s : State) : Host.Outcome State Fault Refusal := .next (s.putBits 0b1111111110111100 16)

/-- HUFF.HT_AC[1].88. -/
def execHuffAc1_88 (s : State) : Host.Outcome State Fault Refusal := .next (s.putBits 0b1111111110111101 16)

/-- HUFF.HT_AC[1].89. -/
def execHuffAc1_89 (s : State) : Host.Outcome State Fault Refusal := .next (s.putBits 0b1111111110111110 16)

/-- HUFF.HT_AC[1].8A. -/
def execHuffAc1_8A (s : State) : Host.Outcome State Fault Refusal := .next (s.putBits 0b1111111110111111 16)

/-- HUFF.HT_AC[1].92. -/
def execHuffAc1_92 (s : State) : Host.Outcome State Fault Refusal := .next (s.putBits 0b1111111111000000 16)

/-- HUFF.HT_AC[1].93. -/
def execHuffAc1_93 (s : State) : Host.Outcome State Fault Refusal := .next (s.putBits 0b1111111111000001 16)

/-- HUFF.HT_AC[1].94. -/
def execHuffAc1_94 (s : State) : Host.Outcome State Fault Refusal := .next (s.putBits 0b1111111111000010 16)

/-- HUFF.HT_AC[1].95. -/
def execHuffAc1_95 (s : State) : Host.Outcome State Fault Refusal := .next (s.putBits 0b1111111111000011 16)

/-- HUFF.HT_AC[1].96. -/
def execHuffAc1_96 (s : State) : Host.Outcome State Fault Refusal := .next (s.putBits 0b1111111111000100 16)

/-- HUFF.HT_AC[1].97. -/
def execHuffAc1_97 (s : State) : Host.Outcome State Fault Refusal := .next (s.putBits 0b1111111111000101 16)

/-- HUFF.HT_AC[1].98. -/
def execHuffAc1_98 (s : State) : Host.Outcome State Fault Refusal := .next (s.putBits 0b1111111111000110 16)

/-- HUFF.HT_AC[1].99. -/
def execHuffAc1_99 (s : State) : Host.Outcome State Fault Refusal := .next (s.putBits 0b1111111111000111 16)

/-- HUFF.HT_AC[1].9A. -/
def execHuffAc1_9A (s : State) : Host.Outcome State Fault Refusal := .next (s.putBits 0b1111111111001000 16)

/-- HUFF.HT_AC[1].A2. -/
def execHuffAc1_A2 (s : State) : Host.Outcome State Fault Refusal := .next (s.putBits 0b1111111111001001 16)

/-- HUFF.HT_AC[1].A3. -/
def execHuffAc1_A3 (s : State) : Host.Outcome State Fault Refusal := .next (s.putBits 0b1111111111001010 16)

/-- HUFF.HT_AC[1].A4. -/
def execHuffAc1_A4 (s : State) : Host.Outcome State Fault Refusal := .next (s.putBits 0b1111111111001011 16)

/-- HUFF.HT_AC[1].A5. -/
def execHuffAc1_A5 (s : State) : Host.Outcome State Fault Refusal := .next (s.putBits 0b1111111111001100 16)

/-- HUFF.HT_AC[1].A6. -/
def execHuffAc1_A6 (s : State) : Host.Outcome State Fault Refusal := .next (s.putBits 0b1111111111001101 16)

/-- HUFF.HT_AC[1].A7. -/
def execHuffAc1_A7 (s : State) : Host.Outcome State Fault Refusal := .next (s.putBits 0b1111111111001110 16)

/-- HUFF.HT_AC[1].A8. -/
def execHuffAc1_A8 (s : State) : Host.Outcome State Fault Refusal := .next (s.putBits 0b1111111111001111 16)

/-- HUFF.HT_AC[1].A9. -/
def execHuffAc1_A9 (s : State) : Host.Outcome State Fault Refusal := .next (s.putBits 0b1111111111010000 16)

/-- HUFF.HT_AC[1].AA. -/
def execHuffAc1_AA (s : State) : Host.Outcome State Fault Refusal := .next (s.putBits 0b1111111111010001 16)

/-- HUFF.HT_AC[1].B2. -/
def execHuffAc1_B2 (s : State) : Host.Outcome State Fault Refusal := .next (s.putBits 0b1111111111010010 16)

/-- HUFF.HT_AC[1].B3. -/
def execHuffAc1_B3 (s : State) : Host.Outcome State Fault Refusal := .next (s.putBits 0b1111111111010011 16)

/-- HUFF.HT_AC[1].B4. -/
def execHuffAc1_B4 (s : State) : Host.Outcome State Fault Refusal := .next (s.putBits 0b1111111111010100 16)

/-- HUFF.HT_AC[1].B5. -/
def execHuffAc1_B5 (s : State) : Host.Outcome State Fault Refusal := .next (s.putBits 0b1111111111010101 16)

/-- HUFF.HT_AC[1].B6. -/
def execHuffAc1_B6 (s : State) : Host.Outcome State Fault Refusal := .next (s.putBits 0b1111111111010110 16)

/-- HUFF.HT_AC[1].B7. -/
def execHuffAc1_B7 (s : State) : Host.Outcome State Fault Refusal := .next (s.putBits 0b1111111111010111 16)

/-- HUFF.HT_AC[1].B8. -/
def execHuffAc1_B8 (s : State) : Host.Outcome State Fault Refusal := .next (s.putBits 0b1111111111011000 16)

/-- HUFF.HT_AC[1].B9. -/
def execHuffAc1_B9 (s : State) : Host.Outcome State Fault Refusal := .next (s.putBits 0b1111111111011001 16)

/-- HUFF.HT_AC[1].BA. -/
def execHuffAc1_BA (s : State) : Host.Outcome State Fault Refusal := .next (s.putBits 0b1111111111011010 16)

/-- HUFF.HT_AC[1].C2. -/
def execHuffAc1_C2 (s : State) : Host.Outcome State Fault Refusal := .next (s.putBits 0b1111111111011011 16)

/-- HUFF.HT_AC[1].C3. -/
def execHuffAc1_C3 (s : State) : Host.Outcome State Fault Refusal := .next (s.putBits 0b1111111111011100 16)

/-- HUFF.HT_AC[1].C4. -/
def execHuffAc1_C4 (s : State) : Host.Outcome State Fault Refusal := .next (s.putBits 0b1111111111011101 16)

/-- HUFF.HT_AC[1].C5. -/
def execHuffAc1_C5 (s : State) : Host.Outcome State Fault Refusal := .next (s.putBits 0b1111111111011110 16)

/-- HUFF.HT_AC[1].C6. -/
def execHuffAc1_C6 (s : State) : Host.Outcome State Fault Refusal := .next (s.putBits 0b1111111111011111 16)

/-- HUFF.HT_AC[1].C7. -/
def execHuffAc1_C7 (s : State) : Host.Outcome State Fault Refusal := .next (s.putBits 0b1111111111100000 16)

/-- HUFF.HT_AC[1].C8. -/
def execHuffAc1_C8 (s : State) : Host.Outcome State Fault Refusal := .next (s.putBits 0b1111111111100001 16)

/-- HUFF.HT_AC[1].C9. -/
def execHuffAc1_C9 (s : State) : Host.Outcome State Fault Refusal := .next (s.putBits 0b1111111111100010 16)

/-- HUFF.HT_AC[1].CA. -/
def execHuffAc1_CA (s : State) : Host.Outcome State Fault Refusal := .next (s.putBits 0b1111111111100011 16)

/-- HUFF.HT_AC[1].D2. -/
def execHuffAc1_D2 (s : State) : Host.Outcome State Fault Refusal := .next (s.putBits 0b1111111111100100 16)

/-- HUFF.HT_AC[1].D3. -/
def execHuffAc1_D3 (s : State) : Host.Outcome State Fault Refusal := .next (s.putBits 0b1111111111100101 16)

/-- HUFF.HT_AC[1].D4. -/
def execHuffAc1_D4 (s : State) : Host.Outcome State Fault Refusal := .next (s.putBits 0b1111111111100110 16)

/-- HUFF.HT_AC[1].D5. -/
def execHuffAc1_D5 (s : State) : Host.Outcome State Fault Refusal := .next (s.putBits 0b1111111111100111 16)

/-- HUFF.HT_AC[1].D6. -/
def execHuffAc1_D6 (s : State) : Host.Outcome State Fault Refusal := .next (s.putBits 0b1111111111101000 16)

/-- HUFF.HT_AC[1].D7. -/
def execHuffAc1_D7 (s : State) : Host.Outcome State Fault Refusal := .next (s.putBits 0b1111111111101001 16)

/-- HUFF.HT_AC[1].D8. -/
def execHuffAc1_D8 (s : State) : Host.Outcome State Fault Refusal := .next (s.putBits 0b1111111111101010 16)

/-- HUFF.HT_AC[1].D9. -/
def execHuffAc1_D9 (s : State) : Host.Outcome State Fault Refusal := .next (s.putBits 0b1111111111101011 16)

/-- HUFF.HT_AC[1].DA. -/
def execHuffAc1_DA (s : State) : Host.Outcome State Fault Refusal := .next (s.putBits 0b1111111111101100 16)

/-- HUFF.HT_AC[1].E2. -/
def execHuffAc1_E2 (s : State) : Host.Outcome State Fault Refusal := .next (s.putBits 0b1111111111101101 16)

/-- HUFF.HT_AC[1].E3. -/
def execHuffAc1_E3 (s : State) : Host.Outcome State Fault Refusal := .next (s.putBits 0b1111111111101110 16)

/-- HUFF.HT_AC[1].E4. -/
def execHuffAc1_E4 (s : State) : Host.Outcome State Fault Refusal := .next (s.putBits 0b1111111111101111 16)

/-- HUFF.HT_AC[1].E5. -/
def execHuffAc1_E5 (s : State) : Host.Outcome State Fault Refusal := .next (s.putBits 0b1111111111110000 16)

/-- HUFF.HT_AC[1].E6. -/
def execHuffAc1_E6 (s : State) : Host.Outcome State Fault Refusal := .next (s.putBits 0b1111111111110001 16)

/-- HUFF.HT_AC[1].E7. -/
def execHuffAc1_E7 (s : State) : Host.Outcome State Fault Refusal := .next (s.putBits 0b1111111111110010 16)

/-- HUFF.HT_AC[1].E8. -/
def execHuffAc1_E8 (s : State) : Host.Outcome State Fault Refusal := .next (s.putBits 0b1111111111110011 16)

/-- HUFF.HT_AC[1].E9. -/
def execHuffAc1_E9 (s : State) : Host.Outcome State Fault Refusal := .next (s.putBits 0b1111111111110100 16)

/-- HUFF.HT_AC[1].EA. -/
def execHuffAc1_EA (s : State) : Host.Outcome State Fault Refusal := .next (s.putBits 0b1111111111110101 16)

/-- HUFF.HT_AC[1].F2. -/
def execHuffAc1_F2 (s : State) : Host.Outcome State Fault Refusal := .next (s.putBits 0b1111111111110110 16)

/-- HUFF.HT_AC[1].F3. -/
def execHuffAc1_F3 (s : State) : Host.Outcome State Fault Refusal := .next (s.putBits 0b1111111111110111 16)

/-- HUFF.HT_AC[1].F4. -/
def execHuffAc1_F4 (s : State) : Host.Outcome State Fault Refusal := .next (s.putBits 0b1111111111111000 16)

/-- HUFF.HT_AC[1].F5. -/
def execHuffAc1_F5 (s : State) : Host.Outcome State Fault Refusal := .next (s.putBits 0b1111111111111001 16)

/-- HUFF.HT_AC[1].F6. -/
def execHuffAc1_F6 (s : State) : Host.Outcome State Fault Refusal := .next (s.putBits 0b1111111111111010 16)

/-- HUFF.HT_AC[1].F7. -/
def execHuffAc1_F7 (s : State) : Host.Outcome State Fault Refusal := .next (s.putBits 0b1111111111111011 16)

/-- HUFF.HT_AC[1].F8. -/
def execHuffAc1_F8 (s : State) : Host.Outcome State Fault Refusal := .next (s.putBits 0b1111111111111100 16)

/-- HUFF.HT_AC[1].F9. -/
def execHuffAc1_F9 (s : State) : Host.Outcome State Fault Refusal := .next (s.putBits 0b1111111111111101 16)

/-- HUFF.HT_AC[1].FA. -/
def execHuffAc1_FA (s : State) : Host.Outcome State Fault Refusal := .next (s.putBits 0b1111111111111110 16)

end Sys2Proof.Machine
end

