-- ==== Sys2Proof/Machine/Status.lean ====
section
/-! DEFINITION. The status codes as instructions (R92, R93, R290 to R302): give that response. A rejection
changes nothing else (R300). -/

namespace Sys2Proof.Machine

/-- STATUS.Ok (R92): the response Ok with its bytes. -/
def execStatusOk (bytes : List Byte) (s : State) : Host.Outcome State Fault Refusal := .next (s.respond bytes)

/-- STATUS.InvalidDimension (R291). -/
def execStatusInvalidDimension (s : State) : Host.Outcome State Fault Refusal := .next (s.reject .invalidDimension)

/-- STATUS.InvalidQuality (R292). -/
def execStatusInvalidQuality (s : State) : Host.Outcome State Fault Refusal := .next (s.reject .invalidQuality)

/-- STATUS.MalformedStripLength (R293). -/
def execStatusMalformedStripLength (s : State) : Host.Outcome State Fault Refusal :=
  .next (s.reject .malformedStripLength)

/-- STATUS.RowOverflow (R294). -/
def execStatusRowOverflow (s : State) : Host.Outcome State Fault Refusal := .next (s.reject .rowOverflow)

/-- STATUS.IncompleteImage (R295). -/
def execStatusIncompleteImage (s : State) : Host.Outcome State Fault Refusal := .next (s.reject .incompleteImage)

/-- STATUS.EncoderFinished (R296). -/
def execStatusEncoderFinished (s : State) : Host.Outcome State Fault Refusal := .next (s.reject .encoderFinished)

/-- STATUS.InvalidColorType (R297). -/
def execStatusInvalidColorType (s : State) : Host.Outcome State Fault Refusal := .next (s.reject .invalidColorType)

/-- STATUS.NotConstructed (R299). -/
def execStatusNotConstructed (s : State) : Host.Outcome State Fault Refusal := .next (s.reject .notConstructed)

/-- STATUS.IllegalCommand (R302). -/
def execStatusIllegalCommand (s : State) : Host.Outcome State Fault Refusal := .next (s.reject .illegalCommand)

end Sys2Proof.Machine
end

