-- ==== Sys2Proof/Machine/Dispatch.lean ====
section
/-! DEFINITION. The dispatch: one arm for each instruction, each one call of its meaning. -/

namespace Sys2Proof.Machine

def exec (i : Instr) (s : State) : Host.Outcome State Fault Refusal :=
  match i with
  | .construct width height colorType quality => Sys2Proof.Machine.execConstruct width height colorType quality s
  | .encodeStrip rows => Sys2Proof.Machine.execEncodeStrip rows s
  | .finish => Sys2Proof.Machine.execFinish s
  | .takeOutput => Sys2Proof.Machine.execTakeOutput s
  | .headerBytes width height colorType quality => Sys2Proof.Machine.execHeaderBytes width height colorType quality s
  | .footerBytes => Sys2Proof.Machine.execFooterBytes s
  | .dispose => Sys2Proof.Machine.execDispose s
  | .reservedOp00 => Sys2Proof.Machine.execReservedOp00 s
  | .reservedOp08 low => Sys2Proof.Machine.execReservedOp08 low s
  | .reservedOp10 low => Sys2Proof.Machine.execReservedOp10 low s
  | .reservedOp20 low => Sys2Proof.Machine.execReservedOp20 low s
  | .reservedOp40 low => Sys2Proof.Machine.execReservedOp40 low s
  | .reservedOp80 low => Sys2Proof.Machine.execReservedOp80 low s
  | .statusOk bytes => Sys2Proof.Machine.execStatusOk bytes s
  | .statusInvalidDimension => Sys2Proof.Machine.execStatusInvalidDimension s
  | .statusInvalidQuality => Sys2Proof.Machine.execStatusInvalidQuality s
  | .statusMalformedStripLength => Sys2Proof.Machine.execStatusMalformedStripLength s
  | .statusRowOverflow => Sys2Proof.Machine.execStatusRowOverflow s
  | .statusIncompleteImage => Sys2Proof.Machine.execStatusIncompleteImage s
  | .statusEncoderFinished => Sys2Proof.Machine.execStatusEncoderFinished s
  | .statusInvalidColorType => Sys2Proof.Machine.execStatusInvalidColorType s
  | .statusNotConstructed => Sys2Proof.Machine.execStatusNotConstructed s
  | .statusIllegalCommand => Sys2Proof.Machine.execStatusIllegalCommand s
  | .cvtLuma p0 => Sys2Proof.Machine.execCvtLuma p0 s
  | .cvtRgb p0 p1 p2 => Sys2Proof.Machine.execCvtRgb p0 p1 p2 s
  | .cvtRgba p0 p1 p2 p3 => Sys2Proof.Machine.execCvtRgba p0 p1 p2 p3 s
  | .cvtBgr p0 p1 p2 => Sys2Proof.Machine.execCvtBgr p0 p1 p2 s
  | .cvtBgra p0 p1 p2 p3 => Sys2Proof.Machine.execCvtBgra p0 p1 p2 p3 s
  | .cvtYcbcr p0 p1 p2 => Sys2Proof.Machine.execCvtYcbcr p0 p1 p2 s
  | .cvtCmyk p0 p1 p2 p3 => Sys2Proof.Machine.execCvtCmyk p0 p1 p2 p3 s
  | .cvtCmykAsYcck p0 p1 p2 p3 => Sys2Proof.Machine.execCvtCmykAsYcck p0 p1 p2 p3 s
  | .cvtYcck p0 p1 p2 p3 => Sys2Proof.Machine.execCvtYcck p0 p1 p2 p3 s
  | .reservedColor09 => Sys2Proof.Machine.execReservedColor09 s
  | .reservedColor0A low => Sys2Proof.Machine.execReservedColor0A low s
  | .reservedColor0C low => Sys2Proof.Machine.execReservedColor0C low s
  | .reservedColor10 low => Sys2Proof.Machine.execReservedColor10 low s
  | .reservedColor20 low => Sys2Proof.Machine.execReservedColor20 low s
  | .reservedColor40 low => Sys2Proof.Machine.execReservedColor40 low s
  | .reservedColor80 low => Sys2Proof.Machine.execReservedColor80 low s
  | .writeSoi => Sys2Proof.Machine.execWriteSoi s
  | .writeApp0 => Sys2Proof.Machine.execWriteApp0 s
  | .writeApp14 => Sys2Proof.Machine.execWriteApp14 s
  | .writeDqt t => Sys2Proof.Machine.execWriteDqt t s
  | .writeSof0 => Sys2Proof.Machine.execWriteSof0 s
  | .writeDht cls h => Sys2Proof.Machine.execWriteDht cls h s
  | .writeSos => Sys2Proof.Machine.execWriteSos s
  | .writeEoi => Sys2Proof.Machine.execWriteEoi s
  | .rgb2ycc r g b => Sys2Proof.Machine.execRgb2ycc r g b s
  | .convertRow strip off => Sys2Proof.Machine.execConvertRow strip off s
  | .appendRows rows n => Sys2Proof.Machine.execAppendRows rows n s
  | .band => Sys2Proof.Machine.execBand s
  | .padBand => Sys2Proof.Machine.execPadBand s
  | .qscale base quality => Sys2Proof.Machine.execQscale base quality s
  | .extract bx c => Sys2Proof.Machine.execExtract bx c s
  | .fdct1d d first => Sys2Proof.Machine.execFdct1d d first s
  | .fdct blk => Sys2Proof.Machine.execFdct blk s
  | .quant coef t => Sys2Proof.Machine.execQuant coef t s
  | .transform blk t => Sys2Proof.Machine.execTransform blk t s
  | .huffgen bits vals => Sys2Proof.Machine.execHuffgen bits vals s
  | .size v => Sys2Proof.Machine.execSize v s
  | .mag v n => Sys2Proof.Machine.execMag v n s
  | .encDc dc c => Sys2Proof.Machine.execEncDc dc c s
  | .encAc zz c => Sys2Proof.Machine.execEncAc zz c s
  | .encblk q c => Sys2Proof.Machine.execEncblk q c s
  | .putbits v n => Sys2Proof.Machine.execPutbits v n s
  | .emitEcs b => Sys2Proof.Machine.execEmitEcs b s
  | .flush => Sys2Proof.Machine.execFlush s
  | .writeRaw bytes => Sys2Proof.Machine.execWriteRaw bytes s
  | .writeHeader => Sys2Proof.Machine.execWriteHeader s
  | .huffDc0_00 => Sys2Proof.Machine.execHuffDc0_00 s
  | .huffDc0_01 => Sys2Proof.Machine.execHuffDc0_01 s
  | .huffDc0_02 => Sys2Proof.Machine.execHuffDc0_02 s
  | .huffDc0_03 => Sys2Proof.Machine.execHuffDc0_03 s
  | .huffDc0_04 => Sys2Proof.Machine.execHuffDc0_04 s
  | .huffDc0_05 => Sys2Proof.Machine.execHuffDc0_05 s
  | .huffDc0_06 => Sys2Proof.Machine.execHuffDc0_06 s
  | .huffDc0_07 => Sys2Proof.Machine.execHuffDc0_07 s
  | .huffDc0_08 => Sys2Proof.Machine.execHuffDc0_08 s
  | .huffDc0_09 => Sys2Proof.Machine.execHuffDc0_09 s
  | .huffDc0_0A => Sys2Proof.Machine.execHuffDc0_0A s
  | .huffDc0_0B => Sys2Proof.Machine.execHuffDc0_0B s
  | .huffAc0_01 => Sys2Proof.Machine.execHuffAc0_01 s
  | .huffAc0_02 => Sys2Proof.Machine.execHuffAc0_02 s
  | .huffAc0_03 => Sys2Proof.Machine.execHuffAc0_03 s
  | .huffAc0_00 => Sys2Proof.Machine.execHuffAc0_00 s
  | .huffAc0_04 => Sys2Proof.Machine.execHuffAc0_04 s
  | .huffAc0_11 => Sys2Proof.Machine.execHuffAc0_11 s
  | .huffAc0_05 => Sys2Proof.Machine.execHuffAc0_05 s
  | .huffAc0_12 => Sys2Proof.Machine.execHuffAc0_12 s
  | .huffAc0_21 => Sys2Proof.Machine.execHuffAc0_21 s
  | .huffAc0_31 => Sys2Proof.Machine.execHuffAc0_31 s
  | .huffAc0_41 => Sys2Proof.Machine.execHuffAc0_41 s
  | .huffAc0_06 => Sys2Proof.Machine.execHuffAc0_06 s
  | .huffAc0_13 => Sys2Proof.Machine.execHuffAc0_13 s
  | .huffAc0_51 => Sys2Proof.Machine.execHuffAc0_51 s
  | .huffAc0_61 => Sys2Proof.Machine.execHuffAc0_61 s
  | .huffAc0_07 => Sys2Proof.Machine.execHuffAc0_07 s
  | .huffAc0_22 => Sys2Proof.Machine.execHuffAc0_22 s
  | .huffAc0_71 => Sys2Proof.Machine.execHuffAc0_71 s
  | .huffAc0_14 => Sys2Proof.Machine.execHuffAc0_14 s
  | .huffAc0_32 => Sys2Proof.Machine.execHuffAc0_32 s
  | .huffAc0_81 => Sys2Proof.Machine.execHuffAc0_81 s
  | .huffAc0_91 => Sys2Proof.Machine.execHuffAc0_91 s
  | .huffAc0_A1 => Sys2Proof.Machine.execHuffAc0_A1 s
  | .huffAc0_08 => Sys2Proof.Machine.execHuffAc0_08 s
  | .huffAc0_23 => Sys2Proof.Machine.execHuffAc0_23 s
  | .huffAc0_42 => Sys2Proof.Machine.execHuffAc0_42 s
  | .huffAc0_B1 => Sys2Proof.Machine.execHuffAc0_B1 s
  | .huffAc0_C1 => Sys2Proof.Machine.execHuffAc0_C1 s
  | .huffAc0_15 => Sys2Proof.Machine.execHuffAc0_15 s
  | .huffAc0_52 => Sys2Proof.Machine.execHuffAc0_52 s
  | .huffAc0_D1 => Sys2Proof.Machine.execHuffAc0_D1 s
  | .huffAc0_F0 => Sys2Proof.Machine.execHuffAc0_F0 s
  | .huffAc0_24 => Sys2Proof.Machine.execHuffAc0_24 s
  | .huffAc0_33 => Sys2Proof.Machine.execHuffAc0_33 s
  | .huffAc0_62 => Sys2Proof.Machine.execHuffAc0_62 s
  | .huffAc0_72 => Sys2Proof.Machine.execHuffAc0_72 s
  | .huffAc0_82 => Sys2Proof.Machine.execHuffAc0_82 s
  | .huffAc0_09 => Sys2Proof.Machine.execHuffAc0_09 s
  | .huffAc0_0A => Sys2Proof.Machine.execHuffAc0_0A s
  | .huffAc0_16 => Sys2Proof.Machine.execHuffAc0_16 s
  | .huffAc0_17 => Sys2Proof.Machine.execHuffAc0_17 s
  | .huffAc0_18 => Sys2Proof.Machine.execHuffAc0_18 s
  | .huffAc0_19 => Sys2Proof.Machine.execHuffAc0_19 s
  | .huffAc0_1A => Sys2Proof.Machine.execHuffAc0_1A s
  | .huffAc0_25 => Sys2Proof.Machine.execHuffAc0_25 s
  | .huffAc0_26 => Sys2Proof.Machine.execHuffAc0_26 s
  | .huffAc0_27 => Sys2Proof.Machine.execHuffAc0_27 s
  | .huffAc0_28 => Sys2Proof.Machine.execHuffAc0_28 s
  | .huffAc0_29 => Sys2Proof.Machine.execHuffAc0_29 s
  | .huffAc0_2A => Sys2Proof.Machine.execHuffAc0_2A s
  | .huffAc0_34 => Sys2Proof.Machine.execHuffAc0_34 s
  | .huffAc0_35 => Sys2Proof.Machine.execHuffAc0_35 s
  | .huffAc0_36 => Sys2Proof.Machine.execHuffAc0_36 s
  | .huffAc0_37 => Sys2Proof.Machine.execHuffAc0_37 s
  | .huffAc0_38 => Sys2Proof.Machine.execHuffAc0_38 s
  | .huffAc0_39 => Sys2Proof.Machine.execHuffAc0_39 s
  | .huffAc0_3A => Sys2Proof.Machine.execHuffAc0_3A s
  | .huffAc0_43 => Sys2Proof.Machine.execHuffAc0_43 s
  | .huffAc0_44 => Sys2Proof.Machine.execHuffAc0_44 s
  | .huffAc0_45 => Sys2Proof.Machine.execHuffAc0_45 s
  | .huffAc0_46 => Sys2Proof.Machine.execHuffAc0_46 s
  | .huffAc0_47 => Sys2Proof.Machine.execHuffAc0_47 s
  | .huffAc0_48 => Sys2Proof.Machine.execHuffAc0_48 s
  | .huffAc0_49 => Sys2Proof.Machine.execHuffAc0_49 s
  | .huffAc0_4A => Sys2Proof.Machine.execHuffAc0_4A s
  | .huffAc0_53 => Sys2Proof.Machine.execHuffAc0_53 s
  | .huffAc0_54 => Sys2Proof.Machine.execHuffAc0_54 s
  | .huffAc0_55 => Sys2Proof.Machine.execHuffAc0_55 s
  | .huffAc0_56 => Sys2Proof.Machine.execHuffAc0_56 s
  | .huffAc0_57 => Sys2Proof.Machine.execHuffAc0_57 s
  | .huffAc0_58 => Sys2Proof.Machine.execHuffAc0_58 s
  | .huffAc0_59 => Sys2Proof.Machine.execHuffAc0_59 s
  | .huffAc0_5A => Sys2Proof.Machine.execHuffAc0_5A s
  | .huffAc0_63 => Sys2Proof.Machine.execHuffAc0_63 s
  | .huffAc0_64 => Sys2Proof.Machine.execHuffAc0_64 s
  | .huffAc0_65 => Sys2Proof.Machine.execHuffAc0_65 s
  | .huffAc0_66 => Sys2Proof.Machine.execHuffAc0_66 s
  | .huffAc0_67 => Sys2Proof.Machine.execHuffAc0_67 s
  | .huffAc0_68 => Sys2Proof.Machine.execHuffAc0_68 s
  | .huffAc0_69 => Sys2Proof.Machine.execHuffAc0_69 s
  | .huffAc0_6A => Sys2Proof.Machine.execHuffAc0_6A s
  | .huffAc0_73 => Sys2Proof.Machine.execHuffAc0_73 s
  | .huffAc0_74 => Sys2Proof.Machine.execHuffAc0_74 s
  | .huffAc0_75 => Sys2Proof.Machine.execHuffAc0_75 s
  | .huffAc0_76 => Sys2Proof.Machine.execHuffAc0_76 s
  | .huffAc0_77 => Sys2Proof.Machine.execHuffAc0_77 s
  | .huffAc0_78 => Sys2Proof.Machine.execHuffAc0_78 s
  | .huffAc0_79 => Sys2Proof.Machine.execHuffAc0_79 s
  | .huffAc0_7A => Sys2Proof.Machine.execHuffAc0_7A s
  | .huffAc0_83 => Sys2Proof.Machine.execHuffAc0_83 s
  | .huffAc0_84 => Sys2Proof.Machine.execHuffAc0_84 s
  | .huffAc0_85 => Sys2Proof.Machine.execHuffAc0_85 s
  | .huffAc0_86 => Sys2Proof.Machine.execHuffAc0_86 s
  | .huffAc0_87 => Sys2Proof.Machine.execHuffAc0_87 s
  | .huffAc0_88 => Sys2Proof.Machine.execHuffAc0_88 s
  | .huffAc0_89 => Sys2Proof.Machine.execHuffAc0_89 s
  | .huffAc0_8A => Sys2Proof.Machine.execHuffAc0_8A s
  | .huffAc0_92 => Sys2Proof.Machine.execHuffAc0_92 s
  | .huffAc0_93 => Sys2Proof.Machine.execHuffAc0_93 s
  | .huffAc0_94 => Sys2Proof.Machine.execHuffAc0_94 s
  | .huffAc0_95 => Sys2Proof.Machine.execHuffAc0_95 s
  | .huffAc0_96 => Sys2Proof.Machine.execHuffAc0_96 s
  | .huffAc0_97 => Sys2Proof.Machine.execHuffAc0_97 s
  | .huffAc0_98 => Sys2Proof.Machine.execHuffAc0_98 s
  | .huffAc0_99 => Sys2Proof.Machine.execHuffAc0_99 s
  | .huffAc0_9A => Sys2Proof.Machine.execHuffAc0_9A s
  | .huffAc0_A2 => Sys2Proof.Machine.execHuffAc0_A2 s
  | .huffAc0_A3 => Sys2Proof.Machine.execHuffAc0_A3 s
  | .huffAc0_A4 => Sys2Proof.Machine.execHuffAc0_A4 s
  | .huffAc0_A5 => Sys2Proof.Machine.execHuffAc0_A5 s
  | .huffAc0_A6 => Sys2Proof.Machine.execHuffAc0_A6 s
  | .huffAc0_A7 => Sys2Proof.Machine.execHuffAc0_A7 s
  | .huffAc0_A8 => Sys2Proof.Machine.execHuffAc0_A8 s
  | .huffAc0_A9 => Sys2Proof.Machine.execHuffAc0_A9 s
  | .huffAc0_AA => Sys2Proof.Machine.execHuffAc0_AA s
  | .huffAc0_B2 => Sys2Proof.Machine.execHuffAc0_B2 s
  | .huffAc0_B3 => Sys2Proof.Machine.execHuffAc0_B3 s
  | .huffAc0_B4 => Sys2Proof.Machine.execHuffAc0_B4 s
  | .huffAc0_B5 => Sys2Proof.Machine.execHuffAc0_B5 s
  | .huffAc0_B6 => Sys2Proof.Machine.execHuffAc0_B6 s
  | .huffAc0_B7 => Sys2Proof.Machine.execHuffAc0_B7 s
  | .huffAc0_B8 => Sys2Proof.Machine.execHuffAc0_B8 s
  | .huffAc0_B9 => Sys2Proof.Machine.execHuffAc0_B9 s
  | .huffAc0_BA => Sys2Proof.Machine.execHuffAc0_BA s
  | .huffAc0_C2 => Sys2Proof.Machine.execHuffAc0_C2 s
  | .huffAc0_C3 => Sys2Proof.Machine.execHuffAc0_C3 s
  | .huffAc0_C4 => Sys2Proof.Machine.execHuffAc0_C4 s
  | .huffAc0_C5 => Sys2Proof.Machine.execHuffAc0_C5 s
  | .huffAc0_C6 => Sys2Proof.Machine.execHuffAc0_C6 s
  | .huffAc0_C7 => Sys2Proof.Machine.execHuffAc0_C7 s
  | .huffAc0_C8 => Sys2Proof.Machine.execHuffAc0_C8 s
  | .huffAc0_C9 => Sys2Proof.Machine.execHuffAc0_C9 s
  | .huffAc0_CA => Sys2Proof.Machine.execHuffAc0_CA s
  | .huffAc0_D2 => Sys2Proof.Machine.execHuffAc0_D2 s
  | .huffAc0_D3 => Sys2Proof.Machine.execHuffAc0_D3 s
  | .huffAc0_D4 => Sys2Proof.Machine.execHuffAc0_D4 s
  | .huffAc0_D5 => Sys2Proof.Machine.execHuffAc0_D5 s
  | .huffAc0_D6 => Sys2Proof.Machine.execHuffAc0_D6 s
  | .huffAc0_D7 => Sys2Proof.Machine.execHuffAc0_D7 s
  | .huffAc0_D8 => Sys2Proof.Machine.execHuffAc0_D8 s
  | .huffAc0_D9 => Sys2Proof.Machine.execHuffAc0_D9 s
  | .huffAc0_DA => Sys2Proof.Machine.execHuffAc0_DA s
  | .huffAc0_E1 => Sys2Proof.Machine.execHuffAc0_E1 s
  | .huffAc0_E2 => Sys2Proof.Machine.execHuffAc0_E2 s
  | .huffAc0_E3 => Sys2Proof.Machine.execHuffAc0_E3 s
  | .huffAc0_E4 => Sys2Proof.Machine.execHuffAc0_E4 s
  | .huffAc0_E5 => Sys2Proof.Machine.execHuffAc0_E5 s
  | .huffAc0_E6 => Sys2Proof.Machine.execHuffAc0_E6 s
  | .huffAc0_E7 => Sys2Proof.Machine.execHuffAc0_E7 s
  | .huffAc0_E8 => Sys2Proof.Machine.execHuffAc0_E8 s
  | .huffAc0_E9 => Sys2Proof.Machine.execHuffAc0_E9 s
  | .huffAc0_EA => Sys2Proof.Machine.execHuffAc0_EA s
  | .huffAc0_F1 => Sys2Proof.Machine.execHuffAc0_F1 s
  | .huffAc0_F2 => Sys2Proof.Machine.execHuffAc0_F2 s
  | .huffAc0_F3 => Sys2Proof.Machine.execHuffAc0_F3 s
  | .huffAc0_F4 => Sys2Proof.Machine.execHuffAc0_F4 s
  | .huffAc0_F5 => Sys2Proof.Machine.execHuffAc0_F5 s
  | .huffAc0_F6 => Sys2Proof.Machine.execHuffAc0_F6 s
  | .huffAc0_F7 => Sys2Proof.Machine.execHuffAc0_F7 s
  | .huffAc0_F8 => Sys2Proof.Machine.execHuffAc0_F8 s
  | .huffAc0_F9 => Sys2Proof.Machine.execHuffAc0_F9 s
  | .huffAc0_FA => Sys2Proof.Machine.execHuffAc0_FA s
  | .huffDc1_00 => Sys2Proof.Machine.execHuffDc1_00 s
  | .huffDc1_01 => Sys2Proof.Machine.execHuffDc1_01 s
  | .huffDc1_02 => Sys2Proof.Machine.execHuffDc1_02 s
  | .huffDc1_03 => Sys2Proof.Machine.execHuffDc1_03 s
  | .huffDc1_04 => Sys2Proof.Machine.execHuffDc1_04 s
  | .huffDc1_05 => Sys2Proof.Machine.execHuffDc1_05 s
  | .huffDc1_06 => Sys2Proof.Machine.execHuffDc1_06 s
  | .huffDc1_07 => Sys2Proof.Machine.execHuffDc1_07 s
  | .huffDc1_08 => Sys2Proof.Machine.execHuffDc1_08 s
  | .huffDc1_09 => Sys2Proof.Machine.execHuffDc1_09 s
  | .huffDc1_0A => Sys2Proof.Machine.execHuffDc1_0A s
  | .huffDc1_0B => Sys2Proof.Machine.execHuffDc1_0B s
  | .huffAc1_00 => Sys2Proof.Machine.execHuffAc1_00 s
  | .huffAc1_01 => Sys2Proof.Machine.execHuffAc1_01 s
  | .huffAc1_02 => Sys2Proof.Machine.execHuffAc1_02 s
  | .huffAc1_03 => Sys2Proof.Machine.execHuffAc1_03 s
  | .huffAc1_11 => Sys2Proof.Machine.execHuffAc1_11 s
  | .huffAc1_04 => Sys2Proof.Machine.execHuffAc1_04 s
  | .huffAc1_05 => Sys2Proof.Machine.execHuffAc1_05 s
  | .huffAc1_21 => Sys2Proof.Machine.execHuffAc1_21 s
  | .huffAc1_31 => Sys2Proof.Machine.execHuffAc1_31 s
  | .huffAc1_06 => Sys2Proof.Machine.execHuffAc1_06 s
  | .huffAc1_12 => Sys2Proof.Machine.execHuffAc1_12 s
  | .huffAc1_41 => Sys2Proof.Machine.execHuffAc1_41 s
  | .huffAc1_51 => Sys2Proof.Machine.execHuffAc1_51 s
  | .huffAc1_07 => Sys2Proof.Machine.execHuffAc1_07 s
  | .huffAc1_61 => Sys2Proof.Machine.execHuffAc1_61 s
  | .huffAc1_71 => Sys2Proof.Machine.execHuffAc1_71 s
  | .huffAc1_13 => Sys2Proof.Machine.execHuffAc1_13 s
  | .huffAc1_22 => Sys2Proof.Machine.execHuffAc1_22 s
  | .huffAc1_32 => Sys2Proof.Machine.execHuffAc1_32 s
  | .huffAc1_81 => Sys2Proof.Machine.execHuffAc1_81 s
  | .huffAc1_08 => Sys2Proof.Machine.execHuffAc1_08 s
  | .huffAc1_14 => Sys2Proof.Machine.execHuffAc1_14 s
  | .huffAc1_42 => Sys2Proof.Machine.execHuffAc1_42 s
  | .huffAc1_91 => Sys2Proof.Machine.execHuffAc1_91 s
  | .huffAc1_A1 => Sys2Proof.Machine.execHuffAc1_A1 s
  | .huffAc1_B1 => Sys2Proof.Machine.execHuffAc1_B1 s
  | .huffAc1_C1 => Sys2Proof.Machine.execHuffAc1_C1 s
  | .huffAc1_09 => Sys2Proof.Machine.execHuffAc1_09 s
  | .huffAc1_23 => Sys2Proof.Machine.execHuffAc1_23 s
  | .huffAc1_33 => Sys2Proof.Machine.execHuffAc1_33 s
  | .huffAc1_52 => Sys2Proof.Machine.execHuffAc1_52 s
  | .huffAc1_F0 => Sys2Proof.Machine.execHuffAc1_F0 s
  | .huffAc1_15 => Sys2Proof.Machine.execHuffAc1_15 s
  | .huffAc1_62 => Sys2Proof.Machine.execHuffAc1_62 s
  | .huffAc1_72 => Sys2Proof.Machine.execHuffAc1_72 s
  | .huffAc1_D1 => Sys2Proof.Machine.execHuffAc1_D1 s
  | .huffAc1_0A => Sys2Proof.Machine.execHuffAc1_0A s
  | .huffAc1_16 => Sys2Proof.Machine.execHuffAc1_16 s
  | .huffAc1_24 => Sys2Proof.Machine.execHuffAc1_24 s
  | .huffAc1_34 => Sys2Proof.Machine.execHuffAc1_34 s
  | .huffAc1_E1 => Sys2Proof.Machine.execHuffAc1_E1 s
  | .huffAc1_25 => Sys2Proof.Machine.execHuffAc1_25 s
  | .huffAc1_F1 => Sys2Proof.Machine.execHuffAc1_F1 s
  | .huffAc1_17 => Sys2Proof.Machine.execHuffAc1_17 s
  | .huffAc1_18 => Sys2Proof.Machine.execHuffAc1_18 s
  | .huffAc1_19 => Sys2Proof.Machine.execHuffAc1_19 s
  | .huffAc1_1A => Sys2Proof.Machine.execHuffAc1_1A s
  | .huffAc1_26 => Sys2Proof.Machine.execHuffAc1_26 s
  | .huffAc1_27 => Sys2Proof.Machine.execHuffAc1_27 s
  | .huffAc1_28 => Sys2Proof.Machine.execHuffAc1_28 s
  | .huffAc1_29 => Sys2Proof.Machine.execHuffAc1_29 s
  | .huffAc1_2A => Sys2Proof.Machine.execHuffAc1_2A s
  | .huffAc1_35 => Sys2Proof.Machine.execHuffAc1_35 s
  | .huffAc1_36 => Sys2Proof.Machine.execHuffAc1_36 s
  | .huffAc1_37 => Sys2Proof.Machine.execHuffAc1_37 s
  | .huffAc1_38 => Sys2Proof.Machine.execHuffAc1_38 s
  | .huffAc1_39 => Sys2Proof.Machine.execHuffAc1_39 s
  | .huffAc1_3A => Sys2Proof.Machine.execHuffAc1_3A s
  | .huffAc1_43 => Sys2Proof.Machine.execHuffAc1_43 s
  | .huffAc1_44 => Sys2Proof.Machine.execHuffAc1_44 s
  | .huffAc1_45 => Sys2Proof.Machine.execHuffAc1_45 s
  | .huffAc1_46 => Sys2Proof.Machine.execHuffAc1_46 s
  | .huffAc1_47 => Sys2Proof.Machine.execHuffAc1_47 s
  | .huffAc1_48 => Sys2Proof.Machine.execHuffAc1_48 s
  | .huffAc1_49 => Sys2Proof.Machine.execHuffAc1_49 s
  | .huffAc1_4A => Sys2Proof.Machine.execHuffAc1_4A s
  | .huffAc1_53 => Sys2Proof.Machine.execHuffAc1_53 s
  | .huffAc1_54 => Sys2Proof.Machine.execHuffAc1_54 s
  | .huffAc1_55 => Sys2Proof.Machine.execHuffAc1_55 s
  | .huffAc1_56 => Sys2Proof.Machine.execHuffAc1_56 s
  | .huffAc1_57 => Sys2Proof.Machine.execHuffAc1_57 s
  | .huffAc1_58 => Sys2Proof.Machine.execHuffAc1_58 s
  | .huffAc1_59 => Sys2Proof.Machine.execHuffAc1_59 s
  | .huffAc1_5A => Sys2Proof.Machine.execHuffAc1_5A s
  | .huffAc1_63 => Sys2Proof.Machine.execHuffAc1_63 s
  | .huffAc1_64 => Sys2Proof.Machine.execHuffAc1_64 s
  | .huffAc1_65 => Sys2Proof.Machine.execHuffAc1_65 s
  | .huffAc1_66 => Sys2Proof.Machine.execHuffAc1_66 s
  | .huffAc1_67 => Sys2Proof.Machine.execHuffAc1_67 s
  | .huffAc1_68 => Sys2Proof.Machine.execHuffAc1_68 s
  | .huffAc1_69 => Sys2Proof.Machine.execHuffAc1_69 s
  | .huffAc1_6A => Sys2Proof.Machine.execHuffAc1_6A s
  | .huffAc1_73 => Sys2Proof.Machine.execHuffAc1_73 s
  | .huffAc1_74 => Sys2Proof.Machine.execHuffAc1_74 s
  | .huffAc1_75 => Sys2Proof.Machine.execHuffAc1_75 s
  | .huffAc1_76 => Sys2Proof.Machine.execHuffAc1_76 s
  | .huffAc1_77 => Sys2Proof.Machine.execHuffAc1_77 s
  | .huffAc1_78 => Sys2Proof.Machine.execHuffAc1_78 s
  | .huffAc1_79 => Sys2Proof.Machine.execHuffAc1_79 s
  | .huffAc1_7A => Sys2Proof.Machine.execHuffAc1_7A s
  | .huffAc1_82 => Sys2Proof.Machine.execHuffAc1_82 s
  | .huffAc1_83 => Sys2Proof.Machine.execHuffAc1_83 s
  | .huffAc1_84 => Sys2Proof.Machine.execHuffAc1_84 s
  | .huffAc1_85 => Sys2Proof.Machine.execHuffAc1_85 s
  | .huffAc1_86 => Sys2Proof.Machine.execHuffAc1_86 s
  | .huffAc1_87 => Sys2Proof.Machine.execHuffAc1_87 s
  | .huffAc1_88 => Sys2Proof.Machine.execHuffAc1_88 s
  | .huffAc1_89 => Sys2Proof.Machine.execHuffAc1_89 s
  | .huffAc1_8A => Sys2Proof.Machine.execHuffAc1_8A s
  | .huffAc1_92 => Sys2Proof.Machine.execHuffAc1_92 s
  | .huffAc1_93 => Sys2Proof.Machine.execHuffAc1_93 s
  | .huffAc1_94 => Sys2Proof.Machine.execHuffAc1_94 s
  | .huffAc1_95 => Sys2Proof.Machine.execHuffAc1_95 s
  | .huffAc1_96 => Sys2Proof.Machine.execHuffAc1_96 s
  | .huffAc1_97 => Sys2Proof.Machine.execHuffAc1_97 s
  | .huffAc1_98 => Sys2Proof.Machine.execHuffAc1_98 s
  | .huffAc1_99 => Sys2Proof.Machine.execHuffAc1_99 s
  | .huffAc1_9A => Sys2Proof.Machine.execHuffAc1_9A s
  | .huffAc1_A2 => Sys2Proof.Machine.execHuffAc1_A2 s
  | .huffAc1_A3 => Sys2Proof.Machine.execHuffAc1_A3 s
  | .huffAc1_A4 => Sys2Proof.Machine.execHuffAc1_A4 s
  | .huffAc1_A5 => Sys2Proof.Machine.execHuffAc1_A5 s
  | .huffAc1_A6 => Sys2Proof.Machine.execHuffAc1_A6 s
  | .huffAc1_A7 => Sys2Proof.Machine.execHuffAc1_A7 s
  | .huffAc1_A8 => Sys2Proof.Machine.execHuffAc1_A8 s
  | .huffAc1_A9 => Sys2Proof.Machine.execHuffAc1_A9 s
  | .huffAc1_AA => Sys2Proof.Machine.execHuffAc1_AA s
  | .huffAc1_B2 => Sys2Proof.Machine.execHuffAc1_B2 s
  | .huffAc1_B3 => Sys2Proof.Machine.execHuffAc1_B3 s
  | .huffAc1_B4 => Sys2Proof.Machine.execHuffAc1_B4 s
  | .huffAc1_B5 => Sys2Proof.Machine.execHuffAc1_B5 s
  | .huffAc1_B6 => Sys2Proof.Machine.execHuffAc1_B6 s
  | .huffAc1_B7 => Sys2Proof.Machine.execHuffAc1_B7 s
  | .huffAc1_B8 => Sys2Proof.Machine.execHuffAc1_B8 s
  | .huffAc1_B9 => Sys2Proof.Machine.execHuffAc1_B9 s
  | .huffAc1_BA => Sys2Proof.Machine.execHuffAc1_BA s
  | .huffAc1_C2 => Sys2Proof.Machine.execHuffAc1_C2 s
  | .huffAc1_C3 => Sys2Proof.Machine.execHuffAc1_C3 s
  | .huffAc1_C4 => Sys2Proof.Machine.execHuffAc1_C4 s
  | .huffAc1_C5 => Sys2Proof.Machine.execHuffAc1_C5 s
  | .huffAc1_C6 => Sys2Proof.Machine.execHuffAc1_C6 s
  | .huffAc1_C7 => Sys2Proof.Machine.execHuffAc1_C7 s
  | .huffAc1_C8 => Sys2Proof.Machine.execHuffAc1_C8 s
  | .huffAc1_C9 => Sys2Proof.Machine.execHuffAc1_C9 s
  | .huffAc1_CA => Sys2Proof.Machine.execHuffAc1_CA s
  | .huffAc1_D2 => Sys2Proof.Machine.execHuffAc1_D2 s
  | .huffAc1_D3 => Sys2Proof.Machine.execHuffAc1_D3 s
  | .huffAc1_D4 => Sys2Proof.Machine.execHuffAc1_D4 s
  | .huffAc1_D5 => Sys2Proof.Machine.execHuffAc1_D5 s
  | .huffAc1_D6 => Sys2Proof.Machine.execHuffAc1_D6 s
  | .huffAc1_D7 => Sys2Proof.Machine.execHuffAc1_D7 s
  | .huffAc1_D8 => Sys2Proof.Machine.execHuffAc1_D8 s
  | .huffAc1_D9 => Sys2Proof.Machine.execHuffAc1_D9 s
  | .huffAc1_DA => Sys2Proof.Machine.execHuffAc1_DA s
  | .huffAc1_E2 => Sys2Proof.Machine.execHuffAc1_E2 s
  | .huffAc1_E3 => Sys2Proof.Machine.execHuffAc1_E3 s
  | .huffAc1_E4 => Sys2Proof.Machine.execHuffAc1_E4 s
  | .huffAc1_E5 => Sys2Proof.Machine.execHuffAc1_E5 s
  | .huffAc1_E6 => Sys2Proof.Machine.execHuffAc1_E6 s
  | .huffAc1_E7 => Sys2Proof.Machine.execHuffAc1_E7 s
  | .huffAc1_E8 => Sys2Proof.Machine.execHuffAc1_E8 s
  | .huffAc1_E9 => Sys2Proof.Machine.execHuffAc1_E9 s
  | .huffAc1_EA => Sys2Proof.Machine.execHuffAc1_EA s
  | .huffAc1_F2 => Sys2Proof.Machine.execHuffAc1_F2 s
  | .huffAc1_F3 => Sys2Proof.Machine.execHuffAc1_F3 s
  | .huffAc1_F4 => Sys2Proof.Machine.execHuffAc1_F4 s
  | .huffAc1_F5 => Sys2Proof.Machine.execHuffAc1_F5 s
  | .huffAc1_F6 => Sys2Proof.Machine.execHuffAc1_F6 s
  | .huffAc1_F7 => Sys2Proof.Machine.execHuffAc1_F7 s
  | .huffAc1_F8 => Sys2Proof.Machine.execHuffAc1_F8 s
  | .huffAc1_F9 => Sys2Proof.Machine.execHuffAc1_F9 s
  | .huffAc1_FA => Sys2Proof.Machine.execHuffAc1_FA s

end Sys2Proof.Machine
end

