-- ==== Sys2Proof/Machine/Step.lean ====
section
/-! DEFINITION. One step of the core: take the next whole packet of the host's queue and execute it (R16,
R140). With nothing sent the core waits (R332); a packet that is not whole is no command (R96). -/

namespace Sys2Proof.Machine

/-- One step. The command runs with its packet already taken from the queue. -/
def step (s : State) : Host.Outcome State Fault Refusal :=
  match decode s.input with
  | .idle => .next s
  | .notWhole => .refused .packetNotWhole
  | .packet i rest => exec i (s.withInput rest)

/-- `s` with the packet of a word of the opcode table as all the host has sent, so that the next step takes
and runs exactly it (log 1, log 7). -/
def State.withFetchWord (s : State) (nbits w : Nat) : State := s.withInput (tablePacket nbits w)

end Sys2Proof.Machine
end

