-- ==== Sys2Proof/Safety.lean ====
section
/-! DEFINITION. What claims are stated in: the invariants of R38, the bytes a sequence of commands returns,
the bit-stream view of the coder (R100, R110 to R112), and the whole-image view of the stream (R196). -/

namespace Sys2Proof.Machine

/-! ## Invariants -/

/-- PENDING's rows have NCOMP planes of WIDTH samples (R30). -/
abbrev State.RowsShaped (s : State) : Prop :=
  ∀ r ∈ s.pending, r.length = s.ncomp ∧ ∀ plane ∈ r, plane.length = s.width.toNat

/-- The configuration and the tables are those of a legal CONSTRUCT (R22 to R29, R38). -/
abbrev State.Configured (s : State) : Prop :=
  1 ≤ s.width.toNat ∧ 1 ≤ s.height.toNat ∧ 1 ≤ s.quality.toNat ∧ s.quality.toNat ≤ 100 ∧
  s.qtLuma = qscale baseLuma s.quality.toNat ∧ s.qtChroma = qscale baseChroma s.quality.toNat ∧
  s.htDcLuma = huffTable .dc0 ∧ s.htAcLuma = huffTable .ac0 ∧
  s.htDcChroma = huffTable .dc1 ∧ s.htAcChroma = huffTable .ac1

/-- The invariants between commands (R35, R38, and R343 for OUT): they hold at power-on, and every step keeps
them. -/
abbrev State.Inv (s : State) : Prop :=
  s.bitbuf.length ≤ 7 ∧ s.pending.length ≤ 7 ∧ s.RowsShaped ∧
  (s.lifecycle ≠ .unconfigured → s.Configured ∧ s.rowsReceived ≤ s.height.toNat) ∧
  (s.lifecycle = .unconfigured → s.pending = [] ∧ s.bitbuf = [] ∧ s.out = []) ∧
  (s.lifecycle = .fresh → s.rowsReceived = 0 ∧ s.pending = [] ∧ s.bitbuf = [] ∧
    (s.out = [] ∨ s.out = headerBytes s.width s.height s.colorType s.quality.toNat)) ∧
  (s.lifecycle = .active → s.pending.length = s.rowsReceived % 8 ∧ s.out = []) ∧
  (s.lifecycle = .finished → s.rowsReceived = s.height.toNat ∧ s.pending = [] ∧ s.bitbuf = [] ∧ s.out = [])

/-- Every predictor holds a value in -1024 to 1016 (R32, R213). -/
abbrev State.PredInRange (s : State) : Prop := ∀ c : Fin 4, -1024 ≤ s.pred.get c ∧ s.pred.get c ≤ 1016

/-! ## Commands and their responses -/

/-- The instructions a packet can hold: the seven commands and the reserved opcodes (R90, R95). -/
def isCommand (i : Instr) : Bool :=
  match encode i with
  | .packet _ => true
  | .response _ => false
  | .color _ _ => false
  | .segment _ => false
  | .code _ _ _ => false
  | .internal => false

/-- The bytes of the last response. -/
def State.responseBytes (s : State) : List Byte := (s.response.map Response.bytes).getD []

/-- The state after a sequence of commands and the bytes of their responses joined in order (R69, R333);
none where a command gives no next state. -/
def runCommands : List Instr → State → Option (State × List Byte)
  | [], s => some (s, [])
  | i :: is, s =>
    match exec i s with
    | .next t => (runCommands is t).map (fun r => (r.1, t.responseBytes ++ r.2))
    | .fault _ => none
    | .refused _ => none

/-- A strip to send, or a TAKE_OUTPUT between strips (R149). -/
def stripCommand : Option (List Byte) → Instr
  | some rows => .encodeStrip rows
  | none => .takeOutput

/-- The operands are a legal configuration of colour type `c` (R141). -/
abbrev LegalConfig (w h : Quad) (ct q : Byte) (c : ColorType) : Prop :=
  1 ≤ w.toNat ∧ w.toNat ≤ 65535 ∧ 1 ≤ h.toNat ∧ h.toNat ≤ 65535 ∧ 1 ≤ q.toNat ∧ q.toNat ≤ 100 ∧ ct = c.code

/-! ## Who writes what (R21 to R34) -/

/-- The instruction is a Huffman code (R233). -/
def isCode (i : Instr) : Bool :=
  match encode i with
  | .code _ _ _ => true
  | .packet _ => false
  | .response _ => false
  | .color _ _ => false
  | .segment _ => false
  | .internal => false

/-- The two commands that set all state (R39): nothing else writes the configuration and the tables (R22 to
R29). -/
def setsAll : Instr → Bool
  | .construct .. => true
  | .dispose => true
  | _ => false

/-- The writers of LIFECYCLE (R21). -/
def writesLifecycle : Instr → Bool
  | .encodeStrip .. => true
  | .finish => true
  | i => setsAll i

/-- The writers of ROWS_RECEIVED (R31). -/
def writesRowsReceived : Instr → Bool
  | .encodeStrip .. => true
  | .appendRows .. => true
  | i => setsAll i

/-- The writers of PENDING (R30). -/
def writesPending : Instr → Bool
  | .encodeStrip .. => true
  | .finish => true
  | .appendRows .. => true
  | .band => true
  | .padBand => true
  | i => setsAll i

/-- The writers of PRED: CONSTRUCT, ENC_DC and what runs ENC_DC (R32, R239). -/
def writesPred : Instr → Bool
  | .encodeStrip .. => true
  | .finish => true
  | .appendRows .. => true
  | .band => true
  | .encDc .. => true
  | .encblk .. => true
  | i => setsAll i

/-- The writers of BITBUF: CONSTRUCT, PUTBITS, FLUSH and what runs these (R33). -/
def writesBitbuf : Instr → Bool
  | .encAc .. => true
  | .putbits .. => true
  | .flush => true
  | i => isCode i || writesPred i

/-- What appends to OUT: the writers of BITBUF, EMIT_ECS, WRITE_RAW and the marker writers (R34). -/
def appendsOut : Instr → Bool
  | .emitEcs .. => true
  | .writeRaw .. => true
  | .writeHeader => true
  | .writeSoi => true
  | .writeApp0 => true
  | .writeApp14 => true
  | .writeDqt .. => true
  | .writeSof0 => true
  | .writeDht .. => true
  | .writeSos => true
  | .writeEoi => true
  | i => writesBitbuf i

/-- What takes bytes out of OUT: the three drains, and the commands that set all state (R34). -/
def drainsOut : Instr → Bool
  | .encodeStrip .. => true
  | .finish => true
  | .takeOutput => true
  | i => setsAll i

/-! ## Sequences of operations -/

/-- The state after a sequence of instructions, none where one of them gives no next state. -/
def runInstrs : List Instr → State → Option State
  | [], s => some s
  | i :: is, s =>
    match exec i s with
    | .next t => runInstrs is t
    | .fault _ => none
    | .refused _ => none

/-! ## The bit stream -/

/-- A stuffed `00` after every `FF` (R110, R261). -/
def stuff (data : List Byte) : List Byte := data.flatMap (fun b => if b = 0xFF#8 then [0xFF#8, 0x00#8] else [b])

/-- Every `FF` is followed by `00` (R119, R152). -/
def stuffed : List Byte → Bool
  | [] => true
  | [b] => decide (b ≠ 0xFF#8)
  | b :: b' :: rest => (decide (b ≠ 0xFF#8) || decide (b' = 0x00#8)) && stuffed (b' :: rest)

/-- The whole bytes of a bit sequence, MSB first (R110, R260). -/
def packBytes : List Bool → List Byte
  | b0 :: b1 :: b2 :: b3 :: b4 :: b5 :: b6 :: b7 :: rest =>
    BitVec.ofNat 8 (128 * b0.toNat + 64 * b1.toNat + 32 * b2.toNat + 16 * b3.toNat
      + 8 * b4.toNat + 4 * b5.toNat + 2 * b6.toNat + b7.toNat) :: packBytes rest
  | _ => []

/-- The bits after the last whole byte. -/
def leftBits (bits : List Bool) : List Bool := bits.drop (8 * (bits.length / 8))

/-- The coder after a bit sequence has been appended in one go: whole bytes go to OUT stuffed, the rest stays
in BITBUF (R260). -/
def Coder.pushBits (k : Coder) (bits : List Bool) : Coder :=
  { k with bitbuf := leftBits (k.bitbuf ++ bits), out := k.out ++ stuff (packBytes (k.bitbuf ++ bits)) }

/-- HUFF(T, s): the bits of a symbol's code (R112). -/
def codeBits (T : HuffTable) (sym : Nat) : List Bool := bitsMsb (T.codeOf sym) (T.sizeOf sym)

/-- MAG(v, SIZE(v)) (R112, R235). -/
def magBits (v : Int) : List Bool := bitsMsb (magOfInt v (sizeOfInt v)) (sizeOfInt v)

/-- `dc_field` of R111 for a difference. -/
def dcBits (T : HuffTable) (diff : Int) : List Bool := codeBits T (sizeOfInt diff) ++ magBits diff

/-- The non-zero coefficients in order, each with the number of zeros before it (R237). -/
def acFields : List Int → (run : Nat) → List (Nat × Int)
  | [], _ => []
  | a :: coefs, run => if a = 0 then acFields coefs (run + 1) else (run, a) :: acFields coefs 0

/-- `{ zrl }* ac_field` of R111 for a coefficient after `run` zeros. -/
def acFieldBits (T : HuffTable) (f : Nat × Int) : List Bool :=
  (List.replicate (f.1 / 16) (codeBits T 0xF0)).flatten ++
    codeBits T (16 * (f.1 % 16) + sizeOfInt f.2) ++ magBits f.2

/-- `ac_part` of R111: the fields, then EOB unless coefficient 63 is not zero. -/
def acBits (T : HuffTable) (zz : List Int) : List Bool :=
  (acFields (acCoefs zz) 0).flatMap (acFieldBits T) ++ (if numberAt zz 63 = 0 then codeBits T 0x00 else [])

/-- `block` of R111 for quantised coefficients in natural order, after a block with DC `prev`. -/
def blockBits (dcT acT : HuffTable) (prev : Int) (q : List Int) : List Bool :=
  dcBits dcT (numberAt q 0 - prev) ++ acBits acT (zigzagOrder q)

/-! ## The whole-image view (R193, R196, R100) -/

/-- `conv[y][c][x]` of R196. -/
def imageSample (ct : ColorType) (w : Nat) (pixels : List Byte) (y c x : Nat) : Byte :=
  byteAt (cvt ct (memReadStrip pixels ((y * w + x) * ct.bpp) ct.bpp)) c

/-- The block coded for band `b`, column `bx`, component `c`: `pad[8b + r][c][8bx + k] - 128` (R196). -/
def imageBlock (ct : ColorType) (w h : Nat) (pixels : List Byte) (b bx : Nat) (c : Fin 4) : List Int :=
  (List.range 64).map (fun i =>
    ((imageSample ct w pixels (min (8 * b + i / 8) (h - 1)) c.val (min (8 * bx + i % 8) (w - 1))).toNat : Int) - 128)

/-- The quantised block of component `c` of the `m`-th MCU of the image, left to right in each band, the
bands from the top (R192, R193). -/
def imageCoefs (ct : ColorType) (w h q : Nat) (pixels : List Byte) (m : Nat) (c : Fin 4) : List Int :=
  transform (imageBlock ct w h pixels (m / ceil8 w) (m % ceil8 w) c)
    (if tq c = 0 then qscale baseLuma q else qscale baseChroma q)

/-- The bits of component `c` of the `m`-th MCU, its DC predicted from the MCU before (R236, R239). -/
def imageBlockBits (ct : ColorType) (w h q : Nat) (pixels : List Byte) (m : Nat) (c : Fin 4) : List Bool :=
  blockBits (if td c = 0 then huffTable .dc0 else huffTable .dc1) (if ta c = 0 then huffTable .ac0 else huffTable .ac1)
    (if m = 0 then 0 else numberAt (imageCoefs ct w h q pixels (m - 1) c) 0) (imageCoefs ct w h q pixels m c)

/-- The bits of the whole image, without the padding (R110). -/
def imageBits (ct : ColorType) (w h q : Nat) (pixels : List Byte) : List Bool :=
  (List.range (ceil8 h * ceil8 w)).flatMap (fun m =>
    (comps ct.ncomp).flatMap (fun c => imageBlockBits ct w h q pixels m c))

/-- 1 bits up to a whole byte (R110, R262). -/
def padOnes (bits : List Bool) : List Bool := bits ++ List.replicate ((8 - bits.length % 8) % 8) true

/-- The stream of an image (R100): header, stuffed bytes of the padded bits, EOI. -/
def imageStream (ct : ColorType) (w h : Half) (q : Nat) (pixels : List Byte) : List Byte :=
  headerBytes w h ct q ++ stuff (packBytes (padOnes (imageBits ct w.toNat h.toNat q pixels))) ++ eoiBytes

end Sys2Proof.Machine
end

