-- ==== Sys2Proof/Certificates/Slice0/Obligations.lean ====
section
/-! DEFINITION. The statements for the provers. Each is about the machine, none about a program; `s` ranges
over every state, and where a statement needs one it names the invariant it rests on. An equation
`exec i s = .next { s with ... }` is also the instruction's frame: every field not named is unchanged. What an
internal operation run by itself returns stands in the field `result` (log 4); the bytes the host has sent are
the field `input` (log 1), and the last response is the field `response` (log 3). -/

open Sys2Proof Sys2Proof.Machine

/-! ## Reset, invariants -/

/-- R330, R332: after power-on LIFECYCLE is Unconfigured and nothing has been sent or answered; R35, R38: the
invariants hold. That PRED is in range there is the model's choice of PRED's value (log 5). So is it for what Inv says
of the items beside LIFECYCLE there, to which R39 gives no value. -/
def Obligations.ResetHasInvariant : Prop :=
  State.reset.lifecycle = .unconfigured ∧ State.reset.response = none ∧ decode State.reset.input = .idle ∧
  State.reset.Inv ∧ State.reset.PredInRange

/-- R35, R38, R343: the invariants between commands are kept by every step, from every state that meets them. What Inv
says of a state with LIFECYCLE Unconfigured (PENDING, BITBUF and OUT empty) holds after DISPOSE by the model's choice:
R39 and U5 give these items no value there, and R38 speaks of Fresh, Active and Finished only (log 5). -/
def Obligations.StepKeepsInvariant : Prop := ∀ s t : State, s.Inv → step s = .next t → t.Inv

/-- R32, R213: the predictors stay in -1024 to 1016. After DISPOSE PRED is in that range by the model's choice: R39
and U5 give it no value there (log 5). -/
def Obligations.PredictorsStayInRange : Prop :=
  ∀ s t : State, s.Inv → s.PredInRange → step s = .next t → t.PredInRange

/-! ## Fetching and decoding -/

/-- R16, R140: a step takes the packet at the head of the host's queue and runs it; with nothing sent the core
waits (R332); a packet that is not whole is no command (R96; log 2). -/
def Obligations.StepRunsHeadPacket : Prop :=
  ∀ s : State,
    (∀ i rest, decode s.input = .packet i rest → i.wf = true ∧ step s = exec i { s with input := rest }) ∧
    (s.input = [] → step s = .next s) ∧
    (decode s.input = .notWhole → step s = .refused .packetNotWhole)

/-- R90, R91: what the decoder reads is a well-formed instruction, whose packet is exactly the bytes taken: no
bit of a packet is dropped. -/
def Obligations.DecodedPacketsAreWhole : Prop :=
  ∀ bs i rest, decode bs = .packet i rest → i.wf = true ∧ ∃ p, encode i = .packet p ∧ bs = p ++ rest

/-- R90, R91, R95: a well-formed command's packet, whatever follows it, is read back as that command. -/
def Obligations.CommandPacketsRoundTrip : Prop :=
  ∀ i bs rest, i.wf = true → encode i = .packet bs → decode (bs ++ rest) = .packet i rest

/-- R96: a packet that ends before its last field, or a strip shorter than its length field says, is not a
command. -/
def Obligations.ShortPacketsAreNotCommands : Prop :=
  ∀ i bs n, i.wf = true → encode i = .packet bs → 0 < n → n < bs.length → decode (bs.take n) = .notWhole

/-- R92, R93, R94, R95, R98, R101: responses, colour types with their pixels, and marker segments read back as
the instructions they stand for. -/
def Obligations.OtherCodesReadBack : Prop :=
  ∀ i : Instr, i.wf = true →
    (∀ bs, encode i = .response bs → decodeResponse bs = some i) ∧
    (∀ ct px, encode i = .color ct px → decodeColor ct px = some i) ∧
    (∀ bs, encode i = .segment bs → decodeSegment bs = some i)

/-- R120, R122: in each table the codes are prefix codes: a code is read back whatever bits follow it. -/
def Obligations.HuffmanCodesReadBack : Prop :=
  ∀ t i v n bits, encode i = .code t v n → decodeHuff t (bitsMsb v n ++ bits) = some (i, bits)

/-- Words written out from R90, R95 (with R91's byte order): opcode in the low byte of the table's word. The words 8
0x01, 8 0x02 and 16 0x0105 are no whole packets by themselves (R96): that zero bytes complete them is the model's
choice (log 7); the other nine are whole packets. -/
def Obligations.TableWordsDecode : Prop :=
  decodeTableWord 8 0x01 = some (.construct 0 0 0 0) ∧
  decodeTableWord 88 0x5501010000000100000001 = some (.construct 1 1 1 85) ∧
  decodeTableWord 8 0x02 = some (.encodeStrip []) ∧
  decodeTableWord 48 0xAB0100000002 = some (.encodeStrip [0xAB]) ∧
  decodeTableWord 8 0x03 = some .finish ∧
  decodeTableWord 8 0x04 = some .takeOutput ∧
  decodeTableWord 16 0x0105 = some (.headerBytes 0x01000000 0 0 0) ∧
  decodeTableWord 8 0x06 = some .footerBytes ∧
  decodeTableWord 8 0x07 = some .dispose ∧
  decodeTableWord 8 0x00 = some .reservedOp00 ∧
  decodeTableWord 8 0x0F = some (.reservedOp08 7) ∧
  decodeTableWord 8 0x55 = some (.reservedOp40 0x15)

/-! ## Host commands -/

/-- R148, R302, R95: the opcode bytes 0x00 and 0x08 to 0xFF are answered IllegalCommand with no bytes in every
lifecycle, and no state changes; so run the six reserved-opcode instructions. -/
def Obligations.ReservedOpcodesAnswerIllegal : Prop :=
  ∀ s : State,
    (∀ (op : Byte) (rest : List Byte), op = 0 ∨ 8 ≤ op.toNat → s.input = op :: rest →
      step s = .next { s with input := rest, response := some ⟨.illegalCommand, []⟩ }) ∧
    exec .reservedOp00 s = .next { s with response := some ⟨.illegalCommand, []⟩ } ∧
    (∀ low, exec (.reservedOp08 low) s = .next { s with response := some ⟨.illegalCommand, []⟩ }) ∧
    (∀ low, exec (.reservedOp10 low) s = .next { s with response := some ⟨.illegalCommand, []⟩ }) ∧
    (∀ low, exec (.reservedOp20 low) s = .next { s with response := some ⟨.illegalCommand, []⟩ }) ∧
    (∀ low, exec (.reservedOp40 low) s = .next { s with response := some ⟨.illegalCommand, []⟩ }) ∧
    (∀ low, exec (.reservedOp80 low) s = .next { s with response := some ⟨.illegalCommand, []⟩ })

/-- R141: the tests of CONSTRUCT in their order, and what a successful CONSTRUCT leaves in every piece of
state (R39, second column). -/
def Obligations.ConstructEffect : Prop :=
  ∀ (s : State) (w h : Quad) (ct q : Byte),
    (w = 0 ∨ h = 0 ∨ 65535 < w.toNat ∨ 65535 < h.toNat →
      exec (.construct w h ct q) s = .next { s with response := some ⟨.invalidDimension, []⟩ }) ∧
    (1 ≤ w.toNat → w.toNat ≤ 65535 → 1 ≤ h.toNat → h.toNat ≤ 65535 →
      (q = 0 ∨ 100 < q.toNat →
        exec (.construct w h ct q) s = .next { s with response := some ⟨.invalidQuality, []⟩ }) ∧
      (1 ≤ q.toNat → q.toNat ≤ 100 → 8 < ct.toNat →
        exec (.construct w h ct q) s = .next { s with response := some ⟨.invalidColorType, []⟩ }) ∧
      (∀ c : ColorType, 1 ≤ q.toNat → q.toNat ≤ 100 → ct = c.code →
        exec (.construct w h ct q) s = .next
          { s with
            lifecycle := .fresh
            width := BitVec.ofNat 16 w.toNat
            height := BitVec.ofNat 16 h.toNat
            colorType := c
            quality := BitVec.ofNat 7 q.toNat
            qtLuma := qscale baseLuma q.toNat
            qtChroma := qscale baseChroma q.toNat
            htDcLuma := huffTable .dc0
            htAcLuma := huffTable .ac0
            htDcChroma := huffTable .dc1
            htAcChroma := huffTable .ac1
            pending := []
            rowsReceived := 0
            pred := ⟨0, 0, 0, 0⟩
            bitbuf := []
            out := headerBytes (BitVec.ofNat 16 w.toNat) (BitVec.ofNat 16 h.toNat) c q.toNat
            response := some ⟨.ok, []⟩ }))

/-- R145: the tests of CONSTRUCT, then the header of the operands; no state is read or written. -/
def Obligations.HeaderBytesEffect : Prop :=
  ∀ (s : State) (w h : Quad) (ct q : Byte),
    (w = 0 ∨ h = 0 ∨ 65535 < w.toNat ∨ 65535 < h.toNat →
      exec (.headerBytes w h ct q) s = .next { s with response := some ⟨.invalidDimension, []⟩ }) ∧
    (1 ≤ w.toNat → w.toNat ≤ 65535 → 1 ≤ h.toNat → h.toNat ≤ 65535 →
      (q = 0 ∨ 100 < q.toNat →
        exec (.headerBytes w h ct q) s = .next { s with response := some ⟨.invalidQuality, []⟩ }) ∧
      (1 ≤ q.toNat → q.toNat ≤ 100 → 8 < ct.toNat →
        exec (.headerBytes w h ct q) s = .next { s with response := some ⟨.invalidColorType, []⟩ }) ∧
      (∀ c : ColorType, 1 ≤ q.toNat → q.toNat ≤ 100 → ct = c.code →
        exec (.headerBytes w h ct q) s = .next
          { s with response := some ⟨.ok, headerBytes (BitVec.ofNat 16 w.toNat) (BitVec.ofNat 16 h.toNat) c q.toNat⟩ }))

/-- R125, R144, R151: for a legal configuration HEADER_BYTES returns what CONSTRUCT then TAKE_OUTPUT return,
and a second TAKE_OUTPUT returns nothing more. -/
def Obligations.FreshOutputIsHeader : Prop :=
  ∀ (s : State) (w h : Quad) (ct q : Byte) (c : ColorType), LegalConfig w h ct q c →
    ∃ t t' t'' bytes,
      runCommands [.headerBytes w h ct q] s = some (t, bytes) ∧
      runCommands [.construct w h ct q, .takeOutput] s = some (t', bytes) ∧
      runCommands [.construct w h ct q, .takeOutput, .takeOutput] s = some (t'', bytes)

/-- R142: the four tests of ENCODE_STRIP in their order; then APPEND_ROWS of the strip's rows, LIFECYCLE Active, and
the whole of OUT returned. R142 gives strips of at most 2^32 - 1 bytes; that a longer one runs so too is the model's
choice (log 25). In states that no run reaches what it does is the model's choice (log 17). -/
def Obligations.EncodeStripEffect : Prop :=
  ∀ (s : State) (rows : List Byte),
    (s.lifecycle = .unconfigured →
      exec (.encodeStrip rows) s = .next { s with response := some ⟨.notConstructed, []⟩ }) ∧
    (s.lifecycle = .finished →
      exec (.encodeStrip rows) s = .next { s with response := some ⟨.encoderFinished, []⟩ }) ∧
    (s.lifecycle = .fresh ∨ s.lifecycle = .active →
      (rows.length % (s.width.toNat * s.colorType.bpp) ≠ 0 →
        exec (.encodeStrip rows) s = .next { s with response := some ⟨.malformedStripLength, []⟩ }) ∧
      (∀ n, rows.length = n * (s.width.toNat * s.colorType.bpp) → 0 < s.width.toNat →
        (s.height.toNat < s.rowsReceived + n →
          exec (.encodeStrip rows) s = .next { s with response := some ⟨.rowOverflow, []⟩ }) ∧
        (s.rowsReceived + n ≤ s.height.toNat →
          ∃ t, exec (.appendRows rows n) s = .next t ∧
            exec (.encodeStrip rows) s = .next
              { t with lifecycle := .active, out := [], response := some ⟨.ok, t.out⟩ })))

/-- R143: the tests of FINISH in their order; then PAD_BAND and BAND if rows are pending, FLUSH, WRITE_EOI, LIFECYCLE
Finished, and the whole of OUT returned. In a state with more than 7 rows or 7 bits held, which no command leaves,
nothing is said. In states that no run reaches what it does is the model's choice (log 17). -/
def Obligations.FinishEffect : Prop :=
  ∀ s : State,
    (s.lifecycle = .unconfigured → exec .finish s = .next { s with response := some ⟨.notConstructed, []⟩ }) ∧
    (s.lifecycle = .finished → exec .finish s = .next { s with response := some ⟨.encoderFinished, []⟩ }) ∧
    (s.lifecycle = .fresh ∨ s.lifecycle = .active →
      (s.rowsReceived < s.height.toNat →
        exec .finish s = .next { s with response := some ⟨.incompleteImage, []⟩ }) ∧
      (s.height.toNat ≤ s.rowsReceived → s.pending.length ≤ 7 → s.bitbuf.length ≤ 7 →
        ∃ t, runInstrs ((if s.pending = [] then [] else [.padBand, .band]) ++ [.flush, .writeEoi]) s = some t ∧
          exec .finish s = .next { t with lifecycle := .finished, out := [], response := some ⟨.ok, t.out⟩ }))

/-- R144: TAKE_OUTPUT returns and empties OUT in every lifecycle but Unconfigured, and does nothing else. -/
def Obligations.TakeOutputEffect : Prop :=
  ∀ s : State,
    (s.lifecycle = .unconfigured → exec .takeOutput s = .next { s with response := some ⟨.notConstructed, []⟩ }) ∧
    (s.lifecycle ≠ .unconfigured →
      exec .takeOutput s = .next { s with out := [], response := some ⟨.ok, s.out⟩ })

/-- R146: FOOTER_BYTES returns FF D9 in every lifecycle and changes no state. -/
def Obligations.FooterBytesConstant : Prop :=
  ∀ s : State, exec .footerBytes s = .next { s with response := some ⟨.ok, [0xFF, 0xD9]⟩ }

/-- R147, R330: DISPOSE leaves LIFECYCLE Unconfigured and every other item of R20 as at power-on; what the items other
than LIFECYCLE hold then is the model's choice (log 5). The host's queue and the result port are no state of the core
(log 1, log 4). -/
def Obligations.DisposeReturnsToPowerOn : Prop :=
  ∀ s : State, exec .dispose s =
    .next { State.reset with input := s.input, result := s.result, response := some ⟨.ok, []⟩ }

/-- R300, R65: every command is answered; one answered with a status other than Ok returns no bytes and leaves the
state as it was. ENCODE_STRIP with a strip of 2^32 bytes or more, which no packet carries, counts as a command here by
the model's choice (log 25). In states that no run reaches the status is the model's choice (log 17). -/
def Obligations.RejectedCommandChangesNothing : Prop :=
  ∀ (s : State) (i : Instr), isCommand i = true →
    ∃ t r, exec i s = .next t ∧ t.response = some r ∧
      (r.status ≠ .ok → r.bytes = [] ∧ t = { s with response := some r })

/-- R140: which status a command is answered with in which lifecycle, and the lifecycle after it. The clause that a
finished instance has no bytes left to take rests on the invariant. For a strip of 2^32 bytes or more, which no packet
carries, the table holds by the model's choice (log 25). In states that no run reaches the status is the model's
choice (log 17). -/
def Obligations.LifecycleTable : Prop :=
  ∀ (s t : State) (r : Response), t.response = some r →
    (∀ w h ct q, exec (.construct w h ct q) s = .next t →
      (r.status = .ok ∧ t.lifecycle = .fresh) ∨
      (r.status ∈ [.invalidDimension, .invalidQuality, .invalidColorType] ∧ t.lifecycle = s.lifecycle)) ∧
    (∀ rows, exec (.encodeStrip rows) s = .next t →
      (s.lifecycle = .unconfigured ∧ r.status = .notConstructed ∧ t.lifecycle = .unconfigured) ∨
      (s.lifecycle = .finished ∧ r.status = .encoderFinished ∧ t.lifecycle = .finished) ∨
      (s.lifecycle ∈ [.fresh, .active] ∧ r.status = .ok ∧ t.lifecycle = .active) ∨
      (s.lifecycle ∈ [.fresh, .active] ∧ r.status ∈ [.malformedStripLength, .rowOverflow] ∧
        t.lifecycle = s.lifecycle)) ∧
    (exec .finish s = .next t →
      (s.lifecycle = .unconfigured ∧ r.status = .notConstructed ∧ t.lifecycle = .unconfigured) ∨
      (s.lifecycle = .finished ∧ r.status = .encoderFinished ∧ t.lifecycle = .finished) ∨
      (s.lifecycle ∈ [.fresh, .active] ∧ r.status = .ok ∧ t.lifecycle = .finished) ∨
      (s.lifecycle ∈ [.fresh, .active] ∧ r.status = .incompleteImage ∧ t.lifecycle = s.lifecycle)) ∧
    (exec .takeOutput s = .next t →
      t.lifecycle = s.lifecycle ∧
      (s.lifecycle = .unconfigured → r.status = .notConstructed) ∧
      (s.lifecycle ≠ .unconfigured → r.status = .ok) ∧
      (s.Inv → s.lifecycle = .finished → r.bytes = [])) ∧
    (∀ w h ct q, exec (.headerBytes w h ct q) s = .next t →
      t.lifecycle = s.lifecycle ∧ r.status ∈ [.ok, .invalidDimension, .invalidQuality, .invalidColorType]) ∧
    (exec .footerBytes s = .next t → t.lifecycle = s.lifecycle ∧ r.status = .ok) ∧
    (exec .dispose s = .next t → t.lifecycle = .unconfigured ∧ r.status = .ok)

/-- R22 to R29, R26, R72: no instruction but CONSTRUCT and DISPOSE changes a configuration register or a table; none
touches the host's queue. An instruction run by exec outside its rule's operands or states, or a row that is a code,
has its effect by the model's choice (logs 9, 13, 17, 20 to 25). -/
def Obligations.ConfigurationImmutable : Prop :=
  ∀ (i : Instr) (s t : State), exec i s = .next t →
    t.input = s.input ∧
    (setsAll i = false →
      t.width = s.width ∧ t.height = s.height ∧ t.colorType = s.colorType ∧ t.quality = s.quality ∧
      t.qtLuma = s.qtLuma ∧ t.qtChroma = s.qtChroma ∧ t.htDcLuma = s.htDcLuma ∧ t.htAcLuma = s.htAcLuma ∧
      t.htDcChroma = s.htDcChroma ∧ t.htAcChroma = s.htAcChroma)

/-- R21, R30 to R34, R239: every other register changes only under the instructions its rule names; OUT loses bytes
only to the drains, CONSTRUCT and DISPOSE, and is else only appended to. An instruction run by exec outside its rule's
operands or states, or a row that is a code, has its effect by the model's choice (logs 9, 13, 17, 20 to 25). -/
def Obligations.RegisterWriters : Prop :=
  ∀ (i : Instr) (s t : State), exec i s = .next t →
    (writesLifecycle i = false → t.lifecycle = s.lifecycle) ∧
    (writesRowsReceived i = false → t.rowsReceived = s.rowsReceived) ∧
    (writesPending i = false → t.pending = s.pending) ∧
    (writesPred i = false → t.pred = s.pred) ∧
    (writesBitbuf i = false → t.bitbuf = s.bitbuf) ∧
    (drainsOut i = false → s.out <+: t.out) ∧
    (drainsOut i = false → appendsOut i = false → t.out = s.out)

/-- R39, U5: what the registers other than LIFECYCLE hold in Unconfigured shows in no response and in no later
configured state. It is said of a strip of 2^32 bytes or more, which no packet carries, by the model's choice (log
25). -/
def Obligations.UnconfiguredValuesUnobservable : Prop :=
  ∀ (s s' : State) (i : Instr), s.lifecycle = .unconfigured → s'.lifecycle = .unconfigured → isCommand i = true →
    ∃ t t', exec i s = .next t ∧ exec i s' = .next t' ∧ t.response = t'.response ∧ t.lifecycle = t'.lifecycle ∧
      (t.lifecycle ≠ .unconfigured → t = { t' with input := t.input, result := t.result })

/-! ## Whole images -/

/-- R149: every cutting of the same pixels into strips of whole rows (empty strips and TAKE_OUTPUT commands between
them allowed) returns the same bytes in all, and leaves the same state, as one strip does. R149 says so of every
image; that a single strip of 2^32 bytes or more, beyond R142's operand, runs as a shorter one does is the model's
choice (log 25). -/
def Obligations.ChunkingInvariance : Prop :=
  ∀ (s : State) (w h : Quad) (ct q : Byte) (c : ColorType) (pixels : List Byte) (script : List (Option (List Byte))),
    LegalConfig w h ct q c → pixels.length = h.toNat * (w.toNat * c.bpp) →
    (script.filterMap id).flatten = pixels → (∀ strip, some strip ∈ script → w.toNat * c.bpp ∣ strip.length) →
    ∃ r, runCommands ([.construct w h ct q] ++ script.map stripCommand ++ [.finish]) s = some r ∧
      runCommands [.construct w h ct q, .encodeStrip pixels, .finish] s = some r

/-- R100, R110, R192, R193, R196: the bytes CONSTRUCT, one ENCODE_STRIP and FINISH return are the header, the image's
MCUs coded in order from the padded image, the padding, and EOI. For an image of 2^32 bytes or more, whose one strip
is beyond R142's operand, that it runs so is the model's choice (log 25). -/
def Obligations.StreamIsImageEncoding : Prop :=
  ∀ (s : State) (w h : Quad) (ct q : Byte) (c : ColorType) (pixels : List Byte),
    LegalConfig w h ct q c → pixels.length = h.toNat * (w.toNat * c.bpp) →
    ∃ t, runCommands [.construct w h ct q, .encodeStrip pixels, .finish] s =
      some (t, imageStream c (BitVec.ofNat 16 w.toNat) (BitVec.ofNat 16 h.toNat) q.toNat pixels)

/-- R152, R119: however the pixels are cut into strips, the stream begins FF D8 and ends FF D9, and between the header
and the final FF D9 every FF is followed by 00. That scripts may hold strips of 2^32 bytes or more, beyond R142's
operand, is the model's choice (log 25). -/
def Obligations.StreamMarkersWellFormed : Prop :=
  ∀ (s t : State) (w h : Quad) (ct q : Byte) (c : ColorType) (script : List (Option (List Byte))) (stream : List Byte),
    LegalConfig w h ct q c →
    runCommands ([.construct w h ct q] ++ script.map stripCommand ++ [.finish]) s = some (t, stream) →
    t.lifecycle = .finished →
    ∃ scan, stream = headerBytes (BitVec.ofNat 16 w.toNat) (BitVec.ofNat 16 h.toNat) c q.toNat ++ scan ++ [0xFF, 0xD9] ∧
      stuffed scan = true ∧ stream.take 2 = [0xFF, 0xD8]

/-! ## The Color Converter -/

/-- R171: the three sums over the integers, shifted right by 16, are the samples; nothing is clamped and no
result leaves 0 to 255. -/
def Obligations.Rgb2yccIsExact : Prop :=
  ∀ (s : State) (r g b : Byte), ∃ y cb cr : Byte,
    rgb2ycc r g b = [y, cb, cr] ∧
    exec (.rgb2ycc r g b) s = .next { s with result := .samples [y, cb, cr] } ∧
    y.toNat = (19595 * r.toNat + 38470 * g.toNat + 7471 * b.toNat + 32768) / 65536 ∧
    (cb.toNat : Int) = (-11059 * r.toNat - 21709 * g.toNat + 32768 * b.toNat + 8388608 + 32767) / 65536 ∧
    (cr.toNat : Int) = (32768 * r.toNat - 27439 * g.toNat - 5329 * b.toNat + 8388608 + 32767) / 65536

/-- R172 to R180: the nine pixel operations, run by themselves and as CONVERT_ROW runs them. -/
def Obligations.CvtOperations : Prop :=
  ∀ (s : State) (p0 p1 p2 p3 : Byte),
    exec (.cvtLuma p0) s = .next { s with result := .samples [p0] } ∧
    exec (.cvtRgb p0 p1 p2) s = .next { s with result := .samples (rgb2ycc p0 p1 p2) } ∧
    exec (.cvtRgba p0 p1 p2 p3) s = .next { s with result := .samples (rgb2ycc p0 p1 p2) } ∧
    exec (.cvtBgr p0 p1 p2) s = .next { s with result := .samples (rgb2ycc p2 p1 p0) } ∧
    exec (.cvtBgra p0 p1 p2 p3) s = .next { s with result := .samples (rgb2ycc p2 p1 p0) } ∧
    exec (.cvtYcbcr p0 p1 p2) s = .next { s with result := .samples [p0, p1, p2] } ∧
    exec (.cvtCmyk p0 p1 p2 p3) s =
      .next { s with result := .samples (rgb2ycc (255 - p0) (255 - p1) (255 - p2) ++ [p3]) } ∧
    exec (.cvtCmykAsYcck p0 p1 p2 p3) s =
      .next { s with result := .samples (rgb2ycc (255 - p0) (255 - p1) (255 - p2) ++ [p3]) } ∧
    exec (.cvtYcck p0 p1 p2 p3) s = .next { s with result := .samples [p0, p1, p2, p3] } ∧
    cvt .luma [p0] = [p0] ∧ cvt .rgb [p0, p1, p2] = rgb2ycc p0 p1 p2 ∧ cvt .rgba [p0, p1, p2, p3] = rgb2ycc p0 p1 p2 ∧
    cvt .bgr [p0, p1, p2] = rgb2ycc p2 p1 p0 ∧ cvt .bgra [p0, p1, p2, p3] = rgb2ycc p2 p1 p0 ∧
    cvt .ycbcr [p0, p1, p2] = [p0, p1, p2] ∧
    cvt .cmyk [p0, p1, p2, p3] = rgb2ycc (255 - p0) (255 - p1) (255 - p2) ++ [p3] ∧
    cvt .cmykAsYcck [p0, p1, p2, p3] = rgb2ycc (255 - p0) (255 - p1) (255 - p2) ++ [p3] ∧
    cvt .ycck [p0, p1, p2, p3] = [p0, p1, p2, p3]

/-- R94, R95, R297: every `color_type` above 8 is read as one of the seven reserved rows, 09, 0A to 0B, 0C to 0F, 10
to 1F, 20 to 3F, 40 to 7F and 80 to FF, with its place in the row, and each of these is answered InvalidColorType,
nothing else changing (log 13). -/
def Obligations.ReservedColorTypesRejected : Prop :=
  ∀ s : State,
    (∀ ct : Byte, 8 < ct.toNat → ∃ i, decodeColor ct [] = some i ∧
      exec i s = .next { s with response := some ⟨.invalidColorType, []⟩ } ∧
      ((ct.toNat = 0x09 ∧ i = .reservedColor09) ∨
        (∃ low, ct.toNat = 0x0A + low.toNat ∧ i = .reservedColor0A low) ∨
        (∃ low, ct.toNat = 0x0C + low.toNat ∧ i = .reservedColor0C low) ∨
        (∃ low, ct.toNat = 0x10 + low.toNat ∧ i = .reservedColor10 low) ∨
        (∃ low, ct.toNat = 0x20 + low.toNat ∧ i = .reservedColor20 low) ∨
        (∃ low, ct.toNat = 0x40 + low.toNat ∧ i = .reservedColor40 low) ∨
        (∃ low, ct.toNat = 0x80 + low.toNat ∧ i = .reservedColor80 low))) ∧
    exec .reservedColor09 s = .next { s with response := some ⟨.invalidColorType, []⟩ } ∧
    (∀ low, exec (.reservedColor0A low) s = .next { s with response := some ⟨.invalidColorType, []⟩ }) ∧
    (∀ low, exec (.reservedColor0C low) s = .next { s with response := some ⟨.invalidColorType, []⟩ }) ∧
    (∀ low, exec (.reservedColor10 low) s = .next { s with response := some ⟨.invalidColorType, []⟩ }) ∧
    (∀ low, exec (.reservedColor20 low) s = .next { s with response := some ⟨.invalidColorType, []⟩ }) ∧
    (∀ low, exec (.reservedColor40 low) s = .next { s with response := some ⟨.invalidColorType, []⟩ }) ∧
    (∀ low, exec (.reservedColor80 low) s = .next { s with response := some ⟨.invalidColorType, []⟩ })

/-- R92, R93: the ten status rows give the response with that status, whose first serialised byte is the code the
table has; only Ok has bytes (log 13). For an Ok with 2^32 bytes or more, which R92 cannot serialise, the count is
taken modulo 2^32 by the model (log 16, DEDUCED). -/
def Obligations.StatusesAreResponses : Prop :=
  ∀ s : State,
    (∀ bytes, exec (.statusOk bytes) s = .next { s with response := some ⟨.ok, bytes⟩ }) ∧
    exec .statusInvalidDimension s = .next { s with response := some ⟨.invalidDimension, []⟩ } ∧
    exec .statusInvalidQuality s = .next { s with response := some ⟨.invalidQuality, []⟩ } ∧
    exec .statusMalformedStripLength s = .next { s with response := some ⟨.malformedStripLength, []⟩ } ∧
    exec .statusRowOverflow s = .next { s with response := some ⟨.rowOverflow, []⟩ } ∧
    exec .statusIncompleteImage s = .next { s with response := some ⟨.incompleteImage, []⟩ } ∧
    exec .statusEncoderFinished s = .next { s with response := some ⟨.encoderFinished, []⟩ } ∧
    exec .statusInvalidColorType s = .next { s with response := some ⟨.invalidColorType, []⟩ } ∧
    exec .statusNotConstructed s = .next { s with response := some ⟨.notConstructed, []⟩ } ∧
    exec .statusIllegalCommand s = .next { s with response := some ⟨.illegalCommand, []⟩ } ∧
    (∀ i bs t r, encode i = .response bs → exec i s = .next t → t.response = some r → r.serialize = bs)

/-! ## The Strip Buffer and MCU Scheduler -/

/-- R181: plane `c`, column `x` of the converted row is sample `c` of the pixel at `off + x*BPP`, and depends on
nothing else. R181 gives `off` as a multiple of STRIDE; that any other `off` runs so too is the model's choice (log
22). So is it for a strip of 2^32 bytes or more, to which R60 gives none (log 25). -/
def Obligations.ConvertRowPerPixel : Prop :=
  ∀ (s : State) (strip : List Byte) (off : Nat), off + s.width.toNat * s.colorType.bpp ≤ strip.length →
    ∃ row : Row, exec (.convertRow strip off) s = .next { s with result := .row row } ∧
      row.length = s.colorType.ncomp ∧
      ∀ c, c < s.colorType.ncomp → ∃ plane, row[c]? = some plane ∧ plane.length = s.width.toNat ∧
        ∀ x, x < s.width.toNat →
          ∃ sample, plane[x]? = some sample ∧
            (cvt s.colorType ((strip.drop (off + x * s.colorType.bpp)).take s.colorType.bpp))[c]? = some sample

/-- R191: APPEND_ROWS row by row: convert, buffer, count, and code the band at the eighth row. R191 takes `n` and
HEIGHT as checked before; that a smaller `n`, a strip of no whole number of rows and more rows than HEIGHT run so too
is the model's choice (log 23). So is it for a strip of 2^32 bytes or more, to which R60 gives none (log 25), and in
states that no run reaches (log 17). -/
def Obligations.AppendRowsLoop : Prop :=
  ∀ (s : State) (rows : List Byte),
    exec (.appendRows rows 0) s = .next s ∧
    ∀ n, (n + 1) * (s.width.toNat * s.colorType.bpp) ≤ rows.length →
      ∃ t row t', exec (.appendRows rows n) s = .next t ∧
        exec (.convertRow rows (n * (s.width.toNat * s.colorType.bpp))) t = .next { t with result := .row row } ∧
        t' = { t with pending := t.pending ++ [row], rowsReceived := t.rowsReceived + 1 } ∧
        (t'.pending.length = 8 →
          ∃ u, exec .band t' = .next u ∧ exec (.appendRows rows (n + 1)) s = .next u) ∧
        (t'.pending.length ≠ 8 → exec (.appendRows rows (n + 1)) s = .next t')

/-- R192: BAND runs, for each MCU column from the left and each component in order, EXTRACT, TRANSFORM with the
component's table and ENCBLK; then PENDING is empty. That these complete for a table entry 0, and for a symbol with no
code, which no constructed table lets occur, is the model's choice (logs 10, 12). So is what it computes from samples
that PENDING lacks (log 11). -/
def Obligations.BandCodesMcusInOrder : Prop :=
  ∀ s : State, s.pending.length = 8 →
    exec .band s = .next { (List.range s.blocksW).foldl
      (fun u bx => (comps s.ncomp).foldl (fun u c => u.codeBlock bx c) u) s with pending := [] } ∧
    ∀ bx (c : Fin 4), bx < s.blocksW → c.val < s.ncomp → ∃ blk q,
      exec (.extract bx c) s = .next { s with result := .numbers blk } ∧
      exec (.transform blk (if c = 1 ∨ c = 2 then 1 else 0)) s = .next { s with result := .numbers q } ∧
      q.length = 64 ∧ exec (.encblk q c) s = .next (s.codeBlock bx c)

/-- R194: PAD_BAND repeats the last row up to 8 rows; ROWS_RECEIVED does not change. -/
def Obligations.PadBandRepeatsLastRow : Prop :=
  ∀ (s : State) (rows : List Row) (last : Row), s.pending = rows ++ [last] → rows.length ≤ 6 →
    exec .padBand s = .next { s with pending := rows ++ List.replicate (8 - rows.length) last }

/-- What an internal operation run by itself does where its rule's requirement or operand range does not hold; all of
it is the model's choice. Where R192, R194, R207, R262 assert or require something of the state, or R60 has no such
sample or byte, it stops by name (log 8). On an operand outside its range it runs: a block column past the last reads
the last real column (log 21); a row, base table or Huffman specification that lacks entries the rule reads has free
values there, entries the rule does not read have no effect, and `scale` is free for a quality outside 1 to 100 (log
9). A sample that PENDING lacks and a symbol past the end of the list are free values (log 11), and a strip may have
2^32 bytes or more (log 25). -/
def Obligations.OutsideTheRules : Prop :=
  ∀ s : State,
    (s.pending.length ≠ 8 → exec .band s = .fault .bandNotFull) ∧
    (s.pending = [] ∨ 8 ≤ s.pending.length → exec .padBand s = .fault .padBandCount) ∧
    (∀ (bx : Nat) (c : Fin 4), s.pending.length ≠ 8 ∨ s.ncomp ≤ c.val →
      exec (.extract bx c) s = .fault .noSuchBlock) ∧
    (8 ≤ s.bitbuf.length → exec .flush s = .fault .bitsLeft) ∧
    (∀ strip off, strip.length < off + s.stride → exec (.convertRow strip off) s = .fault .stripEnds) ∧
    (∀ rows n, rows.length < n * s.stride → exec (.appendRows rows n) s = .fault .stripEnds) ∧
    (∀ (bx : Nat) (c : Fin 4), s.pending.length = 8 → c.val < s.ncomp → s.blocksW ≤ bx →
      exec (.extract bx c) s = .next { s with result := .numbers ((List.range 64).map (fun i =>
        ((memReadPend s.pending (i / 8) c.val (s.width.toNat - 1)).toNat : Int) - 128)) }) ∧
    (∀ (d : List Int) (first : Bool), ∃ o, exec (.fdct1d d first) s = .next { s with result := .numbers o } ∧
      o.length = 8 ∧ exec (.fdct1d (numbersOf 8 d) first) s = .next { s with result := .numbers o }) ∧
    (∀ (base : List Nat) (q : Nat), ∃ (scale : Nat) (table : List Byte),
      exec (.qscale base q) s = .next { s with result := .table table } ∧ table.length = 64 ∧
      ∀ i, i < 64 → ∃ e : Byte, table[i]? = some e ∧
        e.toNat = max 1 (min 255 ((countAt base i * scale + 50) / 100))) ∧
    (∀ (bits : List Nat) (vals : List Byte), ∃ code size,
      exec (.huffgen bits vals) s = .next { s with result := .codes code size } ∧
      code.length = 256 ∧ size.length = 256 ∧
      exec (.huffgen (countsOf 16 bits) ((List.range (countsOf 16 bits).sum).map (byteAt vals))) s =
        .next { s with result := .codes code size })

/-! ## The Block Transformer -/

/-- R205: each entry is the base entry times the scale, plus 50, divided by 100, held in 1 to 255. -/
def Obligations.QscaleEntries : Prop :=
  ∀ (s : State) (base : List Nat) (q : Nat), base.length = 64 → 1 ≤ q → q ≤ 100 →
    ∃ table, exec (.qscale base q) s = .next { s with result := .table table } ∧ table.length = 64 ∧
      ∀ (i b : Nat), base[i]? = some b → ∃ e : Byte, table[i]? = some e ∧
        e.toNat = max 1 (min 255 ((b * (if q < 50 then 5000 / q else 200 - 2 * q) + 50) / 100))

/-- R205, R153: a higher quality never gives a greater entry. R205's base tables have 64 entries; that QSCALE of another
list has the same property, an absent entry a free value, is the model's choice (log 9). -/
def Obligations.QscaleMonotone : Prop :=
  ∀ (base : List Nat) (q1 q2 i : Nat) (e1 e2 : Byte), 1 ≤ q1 → q1 ≤ q2 → q2 ≤ 100 →
    (qscale base q1)[i]? = some e1 → (qscale base q2)[i]? = some e2 → e2.toNat ≤ e1.toNat

/-- R207, R208: entry `8*r + k` of the block is the sample at row `r`, column `min(8*bx + k, WIDTH - 1)`, less 128.
That it completes too where PENDING lacks a sample, which is a free value then, is the model's choice (log 11). -/
def Obligations.ExtractBlock : Prop :=
  ∀ (s : State) (bx : Nat) (c : Fin 4), s.pending.length = 8 → bx < s.blocksW → c.val < s.ncomp →
    ∃ blk, exec (.extract bx c) s = .next { s with result := .numbers blk } ∧ blk.length = 64 ∧
      ∀ (r k : Nat) (row : Row) (plane : List Byte) (v : Byte), r < 8 → k < 8 → s.pending[r]? = some row → row[c.val]? = some plane →
        plane[min (8 * bx + k) (s.width.toNat - 1)]? = some v → blk[8 * r + k]? = some ((v.toNat : Int) - 128)

/-- R209: the eight outputs as sums of the operands' butterflies with the constants of R211 combined, the
odd ones one rounding each. -/
def Obligations.Fdct1dOutputs : Prop :=
  ∀ (s : State) (first : Bool) (d0 d1 d2 d3 d4 d5 d6 d7 : Int),
    ∃ o0 o1 o2 o3 o4 o5 o6 o7 : Int,
      exec (.fdct1d [d0, d1, d2, d3, d4, d5, d6, d7] first) s =
        .next { s with result := .numbers [o0, o1, o2, o3, o4, o5, o6, o7] } ∧
      (first = true → o0 = 4 * (d0 + d1 + d2 + d3 + d4 + d5 + d6 + d7) ∧
        o4 = 4 * (d0 - d1 - d2 + d3 + d4 - d5 - d6 + d7)) ∧
      (first = false → o0 = descale (d0 + d1 + d2 + d3 + d4 + d5 + d6 + d7) 2 ∧
        o4 = descale (d0 - d1 - d2 + d3 + d4 - d5 - d6 + d7) 2) ∧
      ∀ n : Nat, n = (if first then 11 else 15) →
        o2 = descale (10703 * (d0 - d3 - d4 + d7) + 4433 * (d1 - d2 - d5 + d6)) n ∧
        o6 = descale (4433 * (d0 - d3 - d4 + d7) - 10704 * (d1 - d2 - d5 + d6)) n ∧
        o1 = descale (11363 * (d0 - d7) + 9633 * (d1 - d6) + 6437 * (d2 - d5) + 2260 * (d3 - d4)) n ∧
        o3 = descale (9633 * (d0 - d7) - 2259 * (d1 - d6) - 11362 * (d2 - d5) - 6436 * (d3 - d4)) n ∧
        o5 = descale (6437 * (d0 - d7) - 11362 * (d1 - d6) + 2261 * (d2 - d5) + 9633 * (d3 - d4)) n ∧
        o7 = descale (2260 * (d0 - d7) - 6436 * (d1 - d6) + 9633 * (d2 - d5) - 11363 * (d3 - d4)) n

/-- R211: DESCALE(x, n) is x / 2^n to the nearest integer, ties toward plus infinity. -/
def Obligations.DescaleRoundsHalfUp : Prop :=
  ∀ (x : Int) (n : Nat), 1 ≤ n →
    2 * x < (2 * descale x n + 1) * (2 ^ n : Nat) ∧ (2 * descale x n - 1) * (2 ^ n : Nat) ≤ 2 * x

/-- R210: every row of the block transformed, then every column of the result. R210's operand is 64 samples of -128
to 127; that any other list runs so too, an absent entry a free value, is the model's choice (log 9). -/
def Obligations.FdctRowsThenColumns : Prop :=
  ∀ (s : State) (blk : List Int),
    ∃ ws coef : List Int, ws.length = 64 ∧ coef.length = 64 ∧
      exec (.fdct blk) s = .next { s with result := .numbers coef } ∧
      (∀ r, r < 8 → exec (.fdct1d ((List.range 8).map (fun k => numberAt blk (8 * r + k))) true) s =
        .next { s with result := .numbers ((ws.drop (8 * r)).take 8) }) ∧
      (∀ k, k < 8 → exec (.fdct1d ((List.range 8).map (fun r => ws.getD (8 * r + k) 0)) false) s =
        .next { s with result := .numbers ((List.range 8).map (fun r => coef.getD (8 * r + k) 0)) })

/-- R210: the DC coefficient is the sum of the 64 inputs exactly; a constant block has no other. R210's operand is 64
samples of -128 to 127; beyond them FDCT's result is the model's choice (log 9). -/
def Obligations.FdctDcIsSum : Prop :=
  (∀ blk : List Int, blk.length = 64 → (fdct blk)[0]? = some blk.sum) ∧
  (∀ v : Int, fdct (List.replicate 64 v) = (64 * v) :: List.replicate 63 0)

/-- R212: the magnitude divided by 8 times the entry to the nearest integer, ties away from zero, with the
coefficient's sign. Beyond R212 is the model's choice: for a table entry 0, which no constructed table holds, QUANT
still completes, its quotient there a free value (log 10); so it does for a list of other than 64 coefficients, an
absent one a free value (log 9). -/
def Obligations.QuantRoundsTiesAway : Prop :=
  ∀ (s : State) (coef : List Int) (t : Fin 2),
    ∃ q : List Int, exec (.quant coef t) s = .next { s with result := .numbers q } ∧ q.length = 64 ∧
      ∀ (i : Nat) (c : Int) (e : Byte), i < 64 → c = numberAt coef i → (s.qt t)[i]? = some e → 1 ≤ e.toNat →
        ∃ m : Nat, q[i]? = some (if c < 0 then -(m : Int) else (m : Int)) ∧
          8 * e.toNat * (2 * m) ≤ 2 * c.natAbs + 8 * e.toNat ∧ 2 * c.natAbs + 8 * e.toNat < 8 * e.toNat * (2 * m + 2)

/-- R214: TRANSFORM is FDCT then QUANT. That they complete for a table entry 0 and for any list is the model's choice
(logs 9, 10). -/
def Obligations.TransformIsQuantOfFdct : Prop :=
  ∀ (s : State) (blk : List Int) (t : Fin 2),
    ∃ coef q, exec (.fdct blk) s = .next { s with result := .numbers coef } ∧
      exec (.quant coef t) s = .next { s with result := .numbers q } ∧
      exec (.transform blk t) s = .next { s with result := .numbers q }

/-! ## The Entropy Coder -/

/-- R230: ZIGZAG is a permutation of 0 to 63 from 0 to 63, and each step stays on an anti-diagonal or goes to
the next. -/
def Obligations.ZigzagPermutes : Prop :=
  zigzag.Perm (List.range 64) ∧ zigzag.head? = some 0 ∧ zigzag.getLast? = some 63 ∧
  ∀ k, k < 63 → zigzag.getD (k + 1) 0 / 8 + zigzag.getD (k + 1) 0 % 8 = zigzag.getD k 0 / 8 + zigzag.getD k 0 % 8 ∨
    zigzag.getD (k + 1) 0 / 8 + zigzag.getD (k + 1) 0 % 8 = zigzag.getD k 0 / 8 + zigzag.getD k 0 % 8 + 1

/-- R232: HUFFGEN gives the canonical codes: the `j`-th symbol of length `l + 1` has the code that follows the
`j` before it, the first of each length being twice the one after the last of the length before. A symbol not
listed has size 0 (R29). -/
def Obligations.HuffgenIsCanonical : Prop :=
  ∀ (s : State) (bits : List Nat) (vals : List Byte), bits.length = 16 → bits.sum = vals.length →
    ∃ code size, exec (.huffgen bits vals) s = .next { s with result := .codes code size } ∧
      (vals.Nodup → ∀ (l n j : Nat) (sym : Byte), bits[l]? = some n → j < n → vals[(bits.take l).sum + j]? = some sym →
        size[sym.toNat]? = some (l + 1) ∧
        code[sym.toNat]? = some (((List.range l).map (fun i => bits.getD i 0 * 2 ^ (l - i))).sum + j)) ∧
      (∀ sym : Byte, sym ∉ vals → size[sym.toNat]? = some 0)

/-- R233: the table CONSTRUCT computes with HUFFGEN gives every listed symbol the listed code, and the listing
is the whole table. -/
def Obligations.StandardCodesAreListed : Prop :=
  ∀ t : HuffId, (huffVals t).length = (huffInstrs t).length ∧
    ∀ (k : Nat) (sym : Byte) (i : Instr), (huffVals t)[k]? = some sym → (huffInstrs t)[k]? = some i →
      encode i = .code t ((huffTable t).codeOf sym.toNat) ((huffTable t).sizeOf sym.toNat)

/-- R234: SIZE(v) is 0 for 0, else the n with 2^(n-1) <= |v| < 2^n. -/
def Obligations.SizeIsBitLength : Prop :=
  ∀ (s : State) (v : Int), ∃ n : Nat, exec (.size v) s = .next { s with result := .numbers [(n : Int)] } ∧
    ((v = 0 ∧ n = 0) ∨ (1 ≤ n ∧ 2 ^ (n - 1) ≤ v.natAbs ∧ v.natAbs < 2 ^ n))

/-- R235, R112: MAG(v, n) is the `n` low bits of `v`, of `v - 1` for a negative `v`, most significant first; for
n = SIZE(v) that is `v` with first bit 1 for a positive `v`, and v + 2^n - 1 with first bit 0 for a negative one;
nothing for n = 0. That R112 gives the bits for an `n` other than SIZE(v) too is read from it by inference (DEDUCED,
log 19). -/
def Obligations.MagGivesValueBits : Prop :=
  ∀ (s : State) (v : Int) (n : Nat),
    ∃ m : Nat, exec (.mag v n) s = .next { s with result := .bits (bitsMsb m n) } ∧ m < 2 ^ n ∧
      (m : Int) = (if 0 ≤ v then v else v - 1) % (2 ^ n : Nat) ∧
      (isSizeOf v n = true →
        (0 < v → (m : Int) = v ∧ (bitsMsb m n).head? = some true) ∧
        (v < 0 → (m : Int) = v + 2 ^ n - 1 ∧ (bitsMsb m n).head? = some false)) ∧
      (n = 0 → bitsMsb m n = [])

/-- R236: ENC_DC sends the code of the size of the difference from PRED[c], then its value bits, and keeps `dc`
in PRED[c]; the bits join BITBUF and whole bytes go to OUT stuffed (R260, R261). Beyond R236 and R213 is the model's
choice: a difference whose size has no code sends an empty code (log 12, DEDUCED), and a component `c` of NCOMP or
more runs on PRED[c] (log 20). -/
def Obligations.EncDcSendsDifference : Prop :=
  ∀ (s : State) (dc : Int) (c : Fin 4), s.bitbuf.length ≤ 7 →
    ∃ k, k = s.coder.pushBits (dcBits (s.htDc (if c = 1 ∨ c = 2 then 1 else 0)) (dc - s.pred.get c)) ∧
      exec (.encDc dc c) s = .next { s with pred := s.pred.set c dc, bitbuf := k.bitbuf, out := k.out }

/-- R237: ENC_AC sends the fields of the 63 coefficients: for each that is not zero the ZRL codes of its run,
the code of its run and size, its value bits; and EOB unless the last is not zero. Beyond R237 and R213 is the model's
choice: a symbol that has no code sends an empty code (log 12, DEDUCED), an absent coefficient is a free value
(log 9), and a component `c` of NCOMP or more runs (log 20). -/
def Obligations.EncAcSendsRuns : Prop :=
  ∀ (s : State) (zz : List Int) (c : Fin 4), s.bitbuf.length ≤ 7 →
    ∃ k, k = s.coder.pushBits (acBits (s.htAc (if c = 1 ∨ c = 2 then 1 else 0)) zz) ∧
      exec (.encAc zz c) s = .next { s with bitbuf := k.bitbuf, out := k.out }

/-- R238: ENCBLK sends the block's DC field and then its AC fields in zig-zag order, and keeps the block's DC
value in PRED[c]. Beyond R238 and R213 is the model's choice: an empty code for a symbol that has none (log 12,
DEDUCED), free absent coefficients (log 9), a component `c` of NCOMP or more (log 20). -/
def Obligations.EncblkSendsBlock : Prop :=
  ∀ (s : State) (q : List Int) (c : Fin 4), s.bitbuf.length ≤ 7 →
    ∃ k, k = s.coder.pushBits (blockBits (s.htDc (if c = 1 ∨ c = 2 then 1 else 0))
        (s.htAc (if c = 1 ∨ c = 2 then 1 else 0)) (s.pred.get c) q) ∧
      exec (.encblk q c) s = .next { s with pred := s.pred.set c (numberAt q 0), bitbuf := k.bitbuf, out := k.out }

/-- R233, R112: each of the 348 rows sends the bits of its code (log 13). -/
def Obligations.HuffmanRowsSendTheirCode : Prop :=
  ∀ (i : Instr) (t : HuffId) (v n : Nat) (s : State), encode i = .code t v n → s.bitbuf.length ≤ 7 →
    ∃ k, k = s.coder.pushBits (bitsMsb v n) ∧ exec i s = .next { s with bitbuf := k.bitbuf, out := k.out }

/-! ## The Bitstream Writer -/

/-- R260: PUTBITS appends the `n` low bits of `v`, most significant first; whole bytes go to OUT stuffed, what
is left stays in BITBUF; so two PUTBITS do what one of all the bits does. R260's operands are `n` of 1 to 16 and
`v` below 2^n; that every other `n` and `v` has this effect too is the model's choice (log 9). -/
def Obligations.PutbitsAppendsBits : Prop :=
  ∀ (s : State) (v n : Nat), s.bitbuf.length ≤ 7 →
    ∃ k, k = s.coder.pushBits (bitsMsb v n) ∧ k.bitbuf.length ≤ 7 ∧
      exec (.putbits v n) s = .next { s with bitbuf := k.bitbuf, out := k.out } ∧
      ∀ w m, ∃ k', k' = s.coder.pushBits (bitsMsb v n ++ bitsMsb w m) ∧
        exec (.putbits w m) { s with bitbuf := k.bitbuf, out := k.out } =
          .next { s with bitbuf := k'.bitbuf, out := k'.out }

/-- R261: a byte FF goes to OUT with a 00 after it, every other as it is. -/
def Obligations.EmitEcsStuffs : Prop :=
  ∀ (s : State) (b : Byte), exec (.emitEcs b) s =
    .next { s with out := s.out ++ (if b = 0xFF then [0xFF, 0x00] else [b]) }

/-- R262: FLUSH completes the last byte with 1 bits, through EMIT_ECS, and writes nothing on a byte boundary. -/
def Obligations.FlushPadsWithOnes : Prop :=
  ∀ s : State, s.bitbuf.length ≤ 7 →
    exec .flush s = .next { s with bitbuf := [], out := s.out ++ stuff (packBytes (padOnes s.bitbuf)) } ∧
    (s.bitbuf = [] → exec .flush s = .next s)

/-- R263 to R271, with the segments of R103 to R109: what each writer appends to OUT. R271 requires BITCNT = 0; that
WRITE_EOI does the same with bits held is the model's choice (log 24). So is a DHT field that R108's width does not
hold, in states that no run reaches (log 17). -/
def Obligations.MarkersWriteTheirBytes : Prop :=
  ∀ s : State,
    (∀ bytes, exec (.writeRaw bytes) s = .next { s with out := s.out ++ bytes }) ∧
    exec .writeSoi s = .next { s with out := s.out ++ [0xFF, 0xD8] } ∧
    exec .writeApp0 s = .next { s with out := s.out ++
      [0xFF, 0xE0, 0x00, 0x10, 0x4A, 0x46, 0x49, 0x46, 0x00, 0x01, 0x01, 0x00, 0x00, 0x01, 0x00, 0x01, 0x00, 0x00] } ∧
    exec .writeApp14 s = .next { s with out := s.out ++
      [0xFF, 0xEE, 0x00, 0x0E, 0x41, 0x64, 0x6F, 0x62, 0x65, 0x00, 0x64, 0x00, 0x00, 0x00, 0x00, 0x02] } ∧
    (∀ t : Fin 2, (s.qt t).length = 64 → ∃ q, q = zigzag.map (fun i => (s.qt t).getD i 0) ∧
      exec (.writeDqt t) s = .next { s with out := s.out ++ ([0xFF, 0xDB, 0x00, 0x43, BitVec.ofNat 8 t.val] ++ q) }) ∧
    exec .writeSof0 s = .next { s with out := s.out ++
      ([0xFF, 0xC0, 0x00, BitVec.ofNat 8 (8 + 3 * s.ncomp), 0x08, BitVec.ofNat 8 (s.height.toNat / 256),
        BitVec.ofNat 8 s.height.toNat, BitVec.ofNat 8 (s.width.toNat / 256), BitVec.ofNat 8 s.width.toNat,
        BitVec.ofNat 8 s.ncomp] ++
       ([0x01, 0x11, 0x00, 0x02, 0x11, 0x01, 0x03, 0x11, 0x01, 0x04, 0x11, 0x00] : List Byte).take (3 * s.ncomp)) } ∧
    (∀ cls h : Fin 2, ∃ T, T = (if cls = 0 then s.htDc h else s.htAc h) ∧
      exec (.writeDht cls h) s = .next { s with out := s.out ++
        ([0xFF, 0xC4, BitVec.ofNat 8 ((19 + T.vals.length) / 256), BitVec.ofNat 8 (19 + T.vals.length),
          BitVec.ofNat 8 (16 * cls.val + h.val)] ++ T.bits.map (BitVec.ofNat 8) ++ T.vals) }) ∧
    exec .writeSos s = .next { s with out := s.out ++
      ([0xFF, 0xDA, 0x00, BitVec.ofNat 8 (6 + 2 * s.ncomp), BitVec.ofNat 8 s.ncomp] ++
       ([0x01, 0x00, 0x02, 0x11, 0x03, 0x11, 0x04, 0x00] : List Byte).take (2 * s.ncomp) ++ [0x00, 0x3F, 0x00]) } ∧
    exec .writeEoi s = .next { s with out := s.out ++ [0xFF, 0xD9] }

/-- R272: WRITE_HEADER is the writers in this order, APP14 in place of APP0 for four components and the chrominance
tables only for more than one; on a configured instance it appends HEADER of the configuration. R263 says that these
writers are used only when BITCNT = 0; that they do the same with bits held is the model's choice (log 24). -/
def Obligations.WriteHeaderSequence : Prop :=
  ∀ s : State,
    (∃ t, exec .writeHeader s = .next t ∧
      runInstrs ([.writeSoi, if s.ncomp = 4 then .writeApp14 else .writeApp0, .writeDqt 0] ++
        (if 1 < s.ncomp then [.writeDqt 1] else []) ++ [.writeSof0, .writeDht 0 0, .writeDht 1 0] ++
        (if 1 < s.ncomp then [.writeDht 0 1, .writeDht 1 1] else []) ++ [.writeSos]) s = some t) ∧
    (s.Configured → exec .writeHeader s =
      .next { s with out := s.out ++ headerBytes s.width s.height s.colorType s.quality.toNat })

/-- R273, R272: the header's length by the number of components; it begins FF D8; it depends on the colour
type through NCOMP only; with three components the height is at bytes 163 and 164, the width after it. That it is so
for a width or height of 0 and, with tables of a free scale, for a quality outside 1 to 100, which are no legal
configuration, is the model's choice (log 9). -/
def Obligations.HeaderLengths : Prop :=
  ∀ (w h : Half) (c : ColorType) (q : Nat),
    (headerBytes w h c q).length = (if c.ncomp = 1 then 328 else if c.ncomp = 3 then 623 else 626) ∧
    (headerBytes w h c q).take 2 = [0xFF, 0xD8] ∧
    (∀ c' : ColorType, c'.ncomp = c.ncomp → headerBytes w h c' q = headerBytes w h c q) ∧
    (c.ncomp = 3 → ((headerBytes w h c q).drop 163).take 4 =
      [BitVec.ofNat 8 (h.toNat / 256), BitVec.ofNat 8 h.toNat, BitVec.ofNat 8 (w.toNat / 256), BitVec.ofNat 8 w.toNat])
end

