-- ==== Sys2Proof/Laws/State.lean ====
section
/-! SUPPORT. One lemma for each field and each update of a State, true by unfolding, so that no proof
unfolds a record update. -/

namespace Sys2Proof.Machine

@[simp] theorem State.withLifecycle_lifecycle (s : State) (x : Lifecycle) : (s.withLifecycle x).lifecycle = x := rfl
@[simp] theorem State.withLifecycle_width (s : State) (x : Lifecycle) : (s.withLifecycle x).width = s.width := rfl
@[simp] theorem State.withLifecycle_height (s : State) (x : Lifecycle) : (s.withLifecycle x).height = s.height := rfl
@[simp] theorem State.withLifecycle_colorType (s : State) (x : Lifecycle) : (s.withLifecycle x).colorType = s.colorType := rfl
@[simp] theorem State.withLifecycle_quality (s : State) (x : Lifecycle) : (s.withLifecycle x).quality = s.quality := rfl
@[simp] theorem State.withLifecycle_qtLuma (s : State) (x : Lifecycle) : (s.withLifecycle x).qtLuma = s.qtLuma := rfl
@[simp] theorem State.withLifecycle_qtChroma (s : State) (x : Lifecycle) : (s.withLifecycle x).qtChroma = s.qtChroma := rfl
@[simp] theorem State.withLifecycle_htDcLuma (s : State) (x : Lifecycle) : (s.withLifecycle x).htDcLuma = s.htDcLuma := rfl
@[simp] theorem State.withLifecycle_htAcLuma (s : State) (x : Lifecycle) : (s.withLifecycle x).htAcLuma = s.htAcLuma := rfl
@[simp] theorem State.withLifecycle_htDcChroma (s : State) (x : Lifecycle) : (s.withLifecycle x).htDcChroma = s.htDcChroma := rfl
@[simp] theorem State.withLifecycle_htAcChroma (s : State) (x : Lifecycle) : (s.withLifecycle x).htAcChroma = s.htAcChroma := rfl
@[simp] theorem State.withLifecycle_pending (s : State) (x : Lifecycle) : (s.withLifecycle x).pending = s.pending := rfl
@[simp] theorem State.withLifecycle_rowsReceived (s : State) (x : Lifecycle) : (s.withLifecycle x).rowsReceived = s.rowsReceived := rfl
@[simp] theorem State.withLifecycle_pred (s : State) (x : Lifecycle) : (s.withLifecycle x).pred = s.pred := rfl
@[simp] theorem State.withLifecycle_bitbuf (s : State) (x : Lifecycle) : (s.withLifecycle x).bitbuf = s.bitbuf := rfl
@[simp] theorem State.withLifecycle_out (s : State) (x : Lifecycle) : (s.withLifecycle x).out = s.out := rfl
@[simp] theorem State.withLifecycle_input (s : State) (x : Lifecycle) : (s.withLifecycle x).input = s.input := rfl
@[simp] theorem State.withLifecycle_response (s : State) (x : Lifecycle) : (s.withLifecycle x).response = s.response := rfl
@[simp] theorem State.withLifecycle_result (s : State) (x : Lifecycle) : (s.withLifecycle x).result = s.result := rfl

@[simp] theorem State.withPending_lifecycle (s : State) (x : List Row) : (s.withPending x).lifecycle = s.lifecycle := rfl
@[simp] theorem State.withPending_width (s : State) (x : List Row) : (s.withPending x).width = s.width := rfl
@[simp] theorem State.withPending_height (s : State) (x : List Row) : (s.withPending x).height = s.height := rfl
@[simp] theorem State.withPending_colorType (s : State) (x : List Row) : (s.withPending x).colorType = s.colorType := rfl
@[simp] theorem State.withPending_quality (s : State) (x : List Row) : (s.withPending x).quality = s.quality := rfl
@[simp] theorem State.withPending_qtLuma (s : State) (x : List Row) : (s.withPending x).qtLuma = s.qtLuma := rfl
@[simp] theorem State.withPending_qtChroma (s : State) (x : List Row) : (s.withPending x).qtChroma = s.qtChroma := rfl
@[simp] theorem State.withPending_htDcLuma (s : State) (x : List Row) : (s.withPending x).htDcLuma = s.htDcLuma := rfl
@[simp] theorem State.withPending_htAcLuma (s : State) (x : List Row) : (s.withPending x).htAcLuma = s.htAcLuma := rfl
@[simp] theorem State.withPending_htDcChroma (s : State) (x : List Row) : (s.withPending x).htDcChroma = s.htDcChroma := rfl
@[simp] theorem State.withPending_htAcChroma (s : State) (x : List Row) : (s.withPending x).htAcChroma = s.htAcChroma := rfl
@[simp] theorem State.withPending_pending (s : State) (x : List Row) : (s.withPending x).pending = x := rfl
@[simp] theorem State.withPending_rowsReceived (s : State) (x : List Row) : (s.withPending x).rowsReceived = s.rowsReceived := rfl
@[simp] theorem State.withPending_pred (s : State) (x : List Row) : (s.withPending x).pred = s.pred := rfl
@[simp] theorem State.withPending_bitbuf (s : State) (x : List Row) : (s.withPending x).bitbuf = s.bitbuf := rfl
@[simp] theorem State.withPending_out (s : State) (x : List Row) : (s.withPending x).out = s.out := rfl
@[simp] theorem State.withPending_input (s : State) (x : List Row) : (s.withPending x).input = s.input := rfl
@[simp] theorem State.withPending_response (s : State) (x : List Row) : (s.withPending x).response = s.response := rfl
@[simp] theorem State.withPending_result (s : State) (x : List Row) : (s.withPending x).result = s.result := rfl

@[simp] theorem State.withRowsReceived_lifecycle (s : State) (x : Nat) : (s.withRowsReceived x).lifecycle = s.lifecycle := rfl
@[simp] theorem State.withRowsReceived_width (s : State) (x : Nat) : (s.withRowsReceived x).width = s.width := rfl
@[simp] theorem State.withRowsReceived_height (s : State) (x : Nat) : (s.withRowsReceived x).height = s.height := rfl
@[simp] theorem State.withRowsReceived_colorType (s : State) (x : Nat) : (s.withRowsReceived x).colorType = s.colorType := rfl
@[simp] theorem State.withRowsReceived_quality (s : State) (x : Nat) : (s.withRowsReceived x).quality = s.quality := rfl
@[simp] theorem State.withRowsReceived_qtLuma (s : State) (x : Nat) : (s.withRowsReceived x).qtLuma = s.qtLuma := rfl
@[simp] theorem State.withRowsReceived_qtChroma (s : State) (x : Nat) : (s.withRowsReceived x).qtChroma = s.qtChroma := rfl
@[simp] theorem State.withRowsReceived_htDcLuma (s : State) (x : Nat) : (s.withRowsReceived x).htDcLuma = s.htDcLuma := rfl
@[simp] theorem State.withRowsReceived_htAcLuma (s : State) (x : Nat) : (s.withRowsReceived x).htAcLuma = s.htAcLuma := rfl
@[simp] theorem State.withRowsReceived_htDcChroma (s : State) (x : Nat) : (s.withRowsReceived x).htDcChroma = s.htDcChroma := rfl
@[simp] theorem State.withRowsReceived_htAcChroma (s : State) (x : Nat) : (s.withRowsReceived x).htAcChroma = s.htAcChroma := rfl
@[simp] theorem State.withRowsReceived_pending (s : State) (x : Nat) : (s.withRowsReceived x).pending = s.pending := rfl
@[simp] theorem State.withRowsReceived_rowsReceived (s : State) (x : Nat) : (s.withRowsReceived x).rowsReceived = x := rfl
@[simp] theorem State.withRowsReceived_pred (s : State) (x : Nat) : (s.withRowsReceived x).pred = s.pred := rfl
@[simp] theorem State.withRowsReceived_bitbuf (s : State) (x : Nat) : (s.withRowsReceived x).bitbuf = s.bitbuf := rfl
@[simp] theorem State.withRowsReceived_out (s : State) (x : Nat) : (s.withRowsReceived x).out = s.out := rfl
@[simp] theorem State.withRowsReceived_input (s : State) (x : Nat) : (s.withRowsReceived x).input = s.input := rfl
@[simp] theorem State.withRowsReceived_response (s : State) (x : Nat) : (s.withRowsReceived x).response = s.response := rfl
@[simp] theorem State.withRowsReceived_result (s : State) (x : Nat) : (s.withRowsReceived x).result = s.result := rfl

@[simp] theorem State.withPred_lifecycle (s : State) (x : Pred) : (s.withPred x).lifecycle = s.lifecycle := rfl
@[simp] theorem State.withPred_width (s : State) (x : Pred) : (s.withPred x).width = s.width := rfl
@[simp] theorem State.withPred_height (s : State) (x : Pred) : (s.withPred x).height = s.height := rfl
@[simp] theorem State.withPred_colorType (s : State) (x : Pred) : (s.withPred x).colorType = s.colorType := rfl
@[simp] theorem State.withPred_quality (s : State) (x : Pred) : (s.withPred x).quality = s.quality := rfl
@[simp] theorem State.withPred_qtLuma (s : State) (x : Pred) : (s.withPred x).qtLuma = s.qtLuma := rfl
@[simp] theorem State.withPred_qtChroma (s : State) (x : Pred) : (s.withPred x).qtChroma = s.qtChroma := rfl
@[simp] theorem State.withPred_htDcLuma (s : State) (x : Pred) : (s.withPred x).htDcLuma = s.htDcLuma := rfl
@[simp] theorem State.withPred_htAcLuma (s : State) (x : Pred) : (s.withPred x).htAcLuma = s.htAcLuma := rfl
@[simp] theorem State.withPred_htDcChroma (s : State) (x : Pred) : (s.withPred x).htDcChroma = s.htDcChroma := rfl
@[simp] theorem State.withPred_htAcChroma (s : State) (x : Pred) : (s.withPred x).htAcChroma = s.htAcChroma := rfl
@[simp] theorem State.withPred_pending (s : State) (x : Pred) : (s.withPred x).pending = s.pending := rfl
@[simp] theorem State.withPred_rowsReceived (s : State) (x : Pred) : (s.withPred x).rowsReceived = s.rowsReceived := rfl
@[simp] theorem State.withPred_pred (s : State) (x : Pred) : (s.withPred x).pred = x := rfl
@[simp] theorem State.withPred_bitbuf (s : State) (x : Pred) : (s.withPred x).bitbuf = s.bitbuf := rfl
@[simp] theorem State.withPred_out (s : State) (x : Pred) : (s.withPred x).out = s.out := rfl
@[simp] theorem State.withPred_input (s : State) (x : Pred) : (s.withPred x).input = s.input := rfl
@[simp] theorem State.withPred_response (s : State) (x : Pred) : (s.withPred x).response = s.response := rfl
@[simp] theorem State.withPred_result (s : State) (x : Pred) : (s.withPred x).result = s.result := rfl

@[simp] theorem State.withBitbuf_lifecycle (s : State) (x : List Bool) : (s.withBitbuf x).lifecycle = s.lifecycle := rfl
@[simp] theorem State.withBitbuf_width (s : State) (x : List Bool) : (s.withBitbuf x).width = s.width := rfl
@[simp] theorem State.withBitbuf_height (s : State) (x : List Bool) : (s.withBitbuf x).height = s.height := rfl
@[simp] theorem State.withBitbuf_colorType (s : State) (x : List Bool) : (s.withBitbuf x).colorType = s.colorType := rfl
@[simp] theorem State.withBitbuf_quality (s : State) (x : List Bool) : (s.withBitbuf x).quality = s.quality := rfl
@[simp] theorem State.withBitbuf_qtLuma (s : State) (x : List Bool) : (s.withBitbuf x).qtLuma = s.qtLuma := rfl
@[simp] theorem State.withBitbuf_qtChroma (s : State) (x : List Bool) : (s.withBitbuf x).qtChroma = s.qtChroma := rfl
@[simp] theorem State.withBitbuf_htDcLuma (s : State) (x : List Bool) : (s.withBitbuf x).htDcLuma = s.htDcLuma := rfl
@[simp] theorem State.withBitbuf_htAcLuma (s : State) (x : List Bool) : (s.withBitbuf x).htAcLuma = s.htAcLuma := rfl
@[simp] theorem State.withBitbuf_htDcChroma (s : State) (x : List Bool) : (s.withBitbuf x).htDcChroma = s.htDcChroma := rfl
@[simp] theorem State.withBitbuf_htAcChroma (s : State) (x : List Bool) : (s.withBitbuf x).htAcChroma = s.htAcChroma := rfl
@[simp] theorem State.withBitbuf_pending (s : State) (x : List Bool) : (s.withBitbuf x).pending = s.pending := rfl
@[simp] theorem State.withBitbuf_rowsReceived (s : State) (x : List Bool) : (s.withBitbuf x).rowsReceived = s.rowsReceived := rfl
@[simp] theorem State.withBitbuf_pred (s : State) (x : List Bool) : (s.withBitbuf x).pred = s.pred := rfl
@[simp] theorem State.withBitbuf_bitbuf (s : State) (x : List Bool) : (s.withBitbuf x).bitbuf = x := rfl
@[simp] theorem State.withBitbuf_out (s : State) (x : List Bool) : (s.withBitbuf x).out = s.out := rfl
@[simp] theorem State.withBitbuf_input (s : State) (x : List Bool) : (s.withBitbuf x).input = s.input := rfl
@[simp] theorem State.withBitbuf_response (s : State) (x : List Bool) : (s.withBitbuf x).response = s.response := rfl
@[simp] theorem State.withBitbuf_result (s : State) (x : List Bool) : (s.withBitbuf x).result = s.result := rfl

@[simp] theorem State.withOut_lifecycle (s : State) (x : List Byte) : (s.withOut x).lifecycle = s.lifecycle := rfl
@[simp] theorem State.withOut_width (s : State) (x : List Byte) : (s.withOut x).width = s.width := rfl
@[simp] theorem State.withOut_height (s : State) (x : List Byte) : (s.withOut x).height = s.height := rfl
@[simp] theorem State.withOut_colorType (s : State) (x : List Byte) : (s.withOut x).colorType = s.colorType := rfl
@[simp] theorem State.withOut_quality (s : State) (x : List Byte) : (s.withOut x).quality = s.quality := rfl
@[simp] theorem State.withOut_qtLuma (s : State) (x : List Byte) : (s.withOut x).qtLuma = s.qtLuma := rfl
@[simp] theorem State.withOut_qtChroma (s : State) (x : List Byte) : (s.withOut x).qtChroma = s.qtChroma := rfl
@[simp] theorem State.withOut_htDcLuma (s : State) (x : List Byte) : (s.withOut x).htDcLuma = s.htDcLuma := rfl
@[simp] theorem State.withOut_htAcLuma (s : State) (x : List Byte) : (s.withOut x).htAcLuma = s.htAcLuma := rfl
@[simp] theorem State.withOut_htDcChroma (s : State) (x : List Byte) : (s.withOut x).htDcChroma = s.htDcChroma := rfl
@[simp] theorem State.withOut_htAcChroma (s : State) (x : List Byte) : (s.withOut x).htAcChroma = s.htAcChroma := rfl
@[simp] theorem State.withOut_pending (s : State) (x : List Byte) : (s.withOut x).pending = s.pending := rfl
@[simp] theorem State.withOut_rowsReceived (s : State) (x : List Byte) : (s.withOut x).rowsReceived = s.rowsReceived := rfl
@[simp] theorem State.withOut_pred (s : State) (x : List Byte) : (s.withOut x).pred = s.pred := rfl
@[simp] theorem State.withOut_bitbuf (s : State) (x : List Byte) : (s.withOut x).bitbuf = s.bitbuf := rfl
@[simp] theorem State.withOut_out (s : State) (x : List Byte) : (s.withOut x).out = x := rfl
@[simp] theorem State.withOut_input (s : State) (x : List Byte) : (s.withOut x).input = s.input := rfl
@[simp] theorem State.withOut_response (s : State) (x : List Byte) : (s.withOut x).response = s.response := rfl
@[simp] theorem State.withOut_result (s : State) (x : List Byte) : (s.withOut x).result = s.result := rfl

@[simp] theorem State.withInput_lifecycle (s : State) (x : List Byte) : (s.withInput x).lifecycle = s.lifecycle := rfl
@[simp] theorem State.withInput_width (s : State) (x : List Byte) : (s.withInput x).width = s.width := rfl
@[simp] theorem State.withInput_height (s : State) (x : List Byte) : (s.withInput x).height = s.height := rfl
@[simp] theorem State.withInput_colorType (s : State) (x : List Byte) : (s.withInput x).colorType = s.colorType := rfl
@[simp] theorem State.withInput_quality (s : State) (x : List Byte) : (s.withInput x).quality = s.quality := rfl
@[simp] theorem State.withInput_qtLuma (s : State) (x : List Byte) : (s.withInput x).qtLuma = s.qtLuma := rfl
@[simp] theorem State.withInput_qtChroma (s : State) (x : List Byte) : (s.withInput x).qtChroma = s.qtChroma := rfl
@[simp] theorem State.withInput_htDcLuma (s : State) (x : List Byte) : (s.withInput x).htDcLuma = s.htDcLuma := rfl
@[simp] theorem State.withInput_htAcLuma (s : State) (x : List Byte) : (s.withInput x).htAcLuma = s.htAcLuma := rfl
@[simp] theorem State.withInput_htDcChroma (s : State) (x : List Byte) : (s.withInput x).htDcChroma = s.htDcChroma := rfl
@[simp] theorem State.withInput_htAcChroma (s : State) (x : List Byte) : (s.withInput x).htAcChroma = s.htAcChroma := rfl
@[simp] theorem State.withInput_pending (s : State) (x : List Byte) : (s.withInput x).pending = s.pending := rfl
@[simp] theorem State.withInput_rowsReceived (s : State) (x : List Byte) : (s.withInput x).rowsReceived = s.rowsReceived := rfl
@[simp] theorem State.withInput_pred (s : State) (x : List Byte) : (s.withInput x).pred = s.pred := rfl
@[simp] theorem State.withInput_bitbuf (s : State) (x : List Byte) : (s.withInput x).bitbuf = s.bitbuf := rfl
@[simp] theorem State.withInput_out (s : State) (x : List Byte) : (s.withInput x).out = s.out := rfl
@[simp] theorem State.withInput_input (s : State) (x : List Byte) : (s.withInput x).input = x := rfl
@[simp] theorem State.withInput_response (s : State) (x : List Byte) : (s.withInput x).response = s.response := rfl
@[simp] theorem State.withInput_result (s : State) (x : List Byte) : (s.withInput x).result = s.result := rfl

@[simp] theorem State.withResponse_lifecycle (s : State) (x : Option Response) : (s.withResponse x).lifecycle = s.lifecycle := rfl
@[simp] theorem State.withResponse_width (s : State) (x : Option Response) : (s.withResponse x).width = s.width := rfl
@[simp] theorem State.withResponse_height (s : State) (x : Option Response) : (s.withResponse x).height = s.height := rfl
@[simp] theorem State.withResponse_colorType (s : State) (x : Option Response) : (s.withResponse x).colorType = s.colorType := rfl
@[simp] theorem State.withResponse_quality (s : State) (x : Option Response) : (s.withResponse x).quality = s.quality := rfl
@[simp] theorem State.withResponse_qtLuma (s : State) (x : Option Response) : (s.withResponse x).qtLuma = s.qtLuma := rfl
@[simp] theorem State.withResponse_qtChroma (s : State) (x : Option Response) : (s.withResponse x).qtChroma = s.qtChroma := rfl
@[simp] theorem State.withResponse_htDcLuma (s : State) (x : Option Response) : (s.withResponse x).htDcLuma = s.htDcLuma := rfl
@[simp] theorem State.withResponse_htAcLuma (s : State) (x : Option Response) : (s.withResponse x).htAcLuma = s.htAcLuma := rfl
@[simp] theorem State.withResponse_htDcChroma (s : State) (x : Option Response) : (s.withResponse x).htDcChroma = s.htDcChroma := rfl
@[simp] theorem State.withResponse_htAcChroma (s : State) (x : Option Response) : (s.withResponse x).htAcChroma = s.htAcChroma := rfl
@[simp] theorem State.withResponse_pending (s : State) (x : Option Response) : (s.withResponse x).pending = s.pending := rfl
@[simp] theorem State.withResponse_rowsReceived (s : State) (x : Option Response) : (s.withResponse x).rowsReceived = s.rowsReceived := rfl
@[simp] theorem State.withResponse_pred (s : State) (x : Option Response) : (s.withResponse x).pred = s.pred := rfl
@[simp] theorem State.withResponse_bitbuf (s : State) (x : Option Response) : (s.withResponse x).bitbuf = s.bitbuf := rfl
@[simp] theorem State.withResponse_out (s : State) (x : Option Response) : (s.withResponse x).out = s.out := rfl
@[simp] theorem State.withResponse_input (s : State) (x : Option Response) : (s.withResponse x).input = s.input := rfl
@[simp] theorem State.withResponse_response (s : State) (x : Option Response) : (s.withResponse x).response = x := rfl
@[simp] theorem State.withResponse_result (s : State) (x : Option Response) : (s.withResponse x).result = s.result := rfl

@[simp] theorem State.withResult_lifecycle (s : State) (x : Result) : (s.withResult x).lifecycle = s.lifecycle := rfl
@[simp] theorem State.withResult_width (s : State) (x : Result) : (s.withResult x).width = s.width := rfl
@[simp] theorem State.withResult_height (s : State) (x : Result) : (s.withResult x).height = s.height := rfl
@[simp] theorem State.withResult_colorType (s : State) (x : Result) : (s.withResult x).colorType = s.colorType := rfl
@[simp] theorem State.withResult_quality (s : State) (x : Result) : (s.withResult x).quality = s.quality := rfl
@[simp] theorem State.withResult_qtLuma (s : State) (x : Result) : (s.withResult x).qtLuma = s.qtLuma := rfl
@[simp] theorem State.withResult_qtChroma (s : State) (x : Result) : (s.withResult x).qtChroma = s.qtChroma := rfl
@[simp] theorem State.withResult_htDcLuma (s : State) (x : Result) : (s.withResult x).htDcLuma = s.htDcLuma := rfl
@[simp] theorem State.withResult_htAcLuma (s : State) (x : Result) : (s.withResult x).htAcLuma = s.htAcLuma := rfl
@[simp] theorem State.withResult_htDcChroma (s : State) (x : Result) : (s.withResult x).htDcChroma = s.htDcChroma := rfl
@[simp] theorem State.withResult_htAcChroma (s : State) (x : Result) : (s.withResult x).htAcChroma = s.htAcChroma := rfl
@[simp] theorem State.withResult_pending (s : State) (x : Result) : (s.withResult x).pending = s.pending := rfl
@[simp] theorem State.withResult_rowsReceived (s : State) (x : Result) : (s.withResult x).rowsReceived = s.rowsReceived := rfl
@[simp] theorem State.withResult_pred (s : State) (x : Result) : (s.withResult x).pred = s.pred := rfl
@[simp] theorem State.withResult_bitbuf (s : State) (x : Result) : (s.withResult x).bitbuf = s.bitbuf := rfl
@[simp] theorem State.withResult_out (s : State) (x : Result) : (s.withResult x).out = s.out := rfl
@[simp] theorem State.withResult_input (s : State) (x : Result) : (s.withResult x).input = s.input := rfl
@[simp] theorem State.withResult_response (s : State) (x : Result) : (s.withResult x).response = s.response := rfl
@[simp] theorem State.withResult_result (s : State) (x : Result) : (s.withResult x).result = x := rfl

@[simp] theorem State.withCoder_lifecycle (s : State) (k : Coder) : (s.withCoder k).lifecycle = s.lifecycle := rfl
@[simp] theorem State.withCoder_width (s : State) (k : Coder) : (s.withCoder k).width = s.width := rfl
@[simp] theorem State.withCoder_height (s : State) (k : Coder) : (s.withCoder k).height = s.height := rfl
@[simp] theorem State.withCoder_colorType (s : State) (k : Coder) : (s.withCoder k).colorType = s.colorType := rfl
@[simp] theorem State.withCoder_quality (s : State) (k : Coder) : (s.withCoder k).quality = s.quality := rfl
@[simp] theorem State.withCoder_qtLuma (s : State) (k : Coder) : (s.withCoder k).qtLuma = s.qtLuma := rfl
@[simp] theorem State.withCoder_qtChroma (s : State) (k : Coder) : (s.withCoder k).qtChroma = s.qtChroma := rfl
@[simp] theorem State.withCoder_htDcLuma (s : State) (k : Coder) : (s.withCoder k).htDcLuma = s.htDcLuma := rfl
@[simp] theorem State.withCoder_htAcLuma (s : State) (k : Coder) : (s.withCoder k).htAcLuma = s.htAcLuma := rfl
@[simp] theorem State.withCoder_htDcChroma (s : State) (k : Coder) : (s.withCoder k).htDcChroma = s.htDcChroma := rfl
@[simp] theorem State.withCoder_htAcChroma (s : State) (k : Coder) : (s.withCoder k).htAcChroma = s.htAcChroma := rfl
@[simp] theorem State.withCoder_pending (s : State) (k : Coder) : (s.withCoder k).pending = s.pending := rfl
@[simp] theorem State.withCoder_rowsReceived (s : State) (k : Coder) : (s.withCoder k).rowsReceived = s.rowsReceived := rfl
@[simp] theorem State.withCoder_pred (s : State) (k : Coder) : (s.withCoder k).pred = k.pred := rfl
@[simp] theorem State.withCoder_bitbuf (s : State) (k : Coder) : (s.withCoder k).bitbuf = k.bitbuf := rfl
@[simp] theorem State.withCoder_out (s : State) (k : Coder) : (s.withCoder k).out = k.out := rfl
@[simp] theorem State.withCoder_input (s : State) (k : Coder) : (s.withCoder k).input = s.input := rfl
@[simp] theorem State.withCoder_response (s : State) (k : Coder) : (s.withCoder k).response = s.response := rfl
@[simp] theorem State.withCoder_result (s : State) (k : Coder) : (s.withCoder k).result = s.result := rfl

@[simp] theorem State.coder_pred (s : State) : s.coder.pred = s.pred := rfl
@[simp] theorem State.coder_bitbuf (s : State) : s.coder.bitbuf = s.bitbuf := rfl
@[simp] theorem State.coder_out (s : State) : s.coder.out = s.out := rfl
@[simp] theorem State.coder_withCoder (s : State) (k : Coder) : (s.withCoder k).coder = k := rfl
@[simp] theorem State.withCoder_coder (s : State) : s.withCoder s.coder = s := rfl
@[simp] theorem State.withCoder_withCoder (s : State) (k k2 : Coder) : (s.withCoder k).withCoder k2 = s.withCoder k2 := rfl

@[simp] theorem State.reject_lifecycle (s : State) (st : Status) : (s.reject st).lifecycle = s.lifecycle := rfl
@[simp] theorem State.reject_width (s : State) (st : Status) : (s.reject st).width = s.width := rfl
@[simp] theorem State.reject_height (s : State) (st : Status) : (s.reject st).height = s.height := rfl
@[simp] theorem State.reject_colorType (s : State) (st : Status) : (s.reject st).colorType = s.colorType := rfl
@[simp] theorem State.reject_quality (s : State) (st : Status) : (s.reject st).quality = s.quality := rfl
@[simp] theorem State.reject_qtLuma (s : State) (st : Status) : (s.reject st).qtLuma = s.qtLuma := rfl
@[simp] theorem State.reject_qtChroma (s : State) (st : Status) : (s.reject st).qtChroma = s.qtChroma := rfl
@[simp] theorem State.reject_htDcLuma (s : State) (st : Status) : (s.reject st).htDcLuma = s.htDcLuma := rfl
@[simp] theorem State.reject_htAcLuma (s : State) (st : Status) : (s.reject st).htAcLuma = s.htAcLuma := rfl
@[simp] theorem State.reject_htDcChroma (s : State) (st : Status) : (s.reject st).htDcChroma = s.htDcChroma := rfl
@[simp] theorem State.reject_htAcChroma (s : State) (st : Status) : (s.reject st).htAcChroma = s.htAcChroma := rfl
@[simp] theorem State.reject_pending (s : State) (st : Status) : (s.reject st).pending = s.pending := rfl
@[simp] theorem State.reject_rowsReceived (s : State) (st : Status) : (s.reject st).rowsReceived = s.rowsReceived := rfl
@[simp] theorem State.reject_pred (s : State) (st : Status) : (s.reject st).pred = s.pred := rfl
@[simp] theorem State.reject_bitbuf (s : State) (st : Status) : (s.reject st).bitbuf = s.bitbuf := rfl
@[simp] theorem State.reject_out (s : State) (st : Status) : (s.reject st).out = s.out := rfl
@[simp] theorem State.reject_input (s : State) (st : Status) : (s.reject st).input = s.input := rfl
@[simp] theorem State.reject_response (s : State) (st : Status) : (s.reject st).response = some ⟨st, []⟩ := rfl
@[simp] theorem State.reject_result (s : State) (st : Status) : (s.reject st).result = s.result := rfl

@[simp] theorem State.respond_lifecycle (s : State) (bytes : List Byte) : (s.respond bytes).lifecycle = s.lifecycle := rfl
@[simp] theorem State.respond_width (s : State) (bytes : List Byte) : (s.respond bytes).width = s.width := rfl
@[simp] theorem State.respond_height (s : State) (bytes : List Byte) : (s.respond bytes).height = s.height := rfl
@[simp] theorem State.respond_colorType (s : State) (bytes : List Byte) : (s.respond bytes).colorType = s.colorType := rfl
@[simp] theorem State.respond_quality (s : State) (bytes : List Byte) : (s.respond bytes).quality = s.quality := rfl
@[simp] theorem State.respond_qtLuma (s : State) (bytes : List Byte) : (s.respond bytes).qtLuma = s.qtLuma := rfl
@[simp] theorem State.respond_qtChroma (s : State) (bytes : List Byte) : (s.respond bytes).qtChroma = s.qtChroma := rfl
@[simp] theorem State.respond_htDcLuma (s : State) (bytes : List Byte) : (s.respond bytes).htDcLuma = s.htDcLuma := rfl
@[simp] theorem State.respond_htAcLuma (s : State) (bytes : List Byte) : (s.respond bytes).htAcLuma = s.htAcLuma := rfl
@[simp] theorem State.respond_htDcChroma (s : State) (bytes : List Byte) : (s.respond bytes).htDcChroma = s.htDcChroma := rfl
@[simp] theorem State.respond_htAcChroma (s : State) (bytes : List Byte) : (s.respond bytes).htAcChroma = s.htAcChroma := rfl
@[simp] theorem State.respond_pending (s : State) (bytes : List Byte) : (s.respond bytes).pending = s.pending := rfl
@[simp] theorem State.respond_rowsReceived (s : State) (bytes : List Byte) : (s.respond bytes).rowsReceived = s.rowsReceived := rfl
@[simp] theorem State.respond_pred (s : State) (bytes : List Byte) : (s.respond bytes).pred = s.pred := rfl
@[simp] theorem State.respond_bitbuf (s : State) (bytes : List Byte) : (s.respond bytes).bitbuf = s.bitbuf := rfl
@[simp] theorem State.respond_out (s : State) (bytes : List Byte) : (s.respond bytes).out = s.out := rfl
@[simp] theorem State.respond_input (s : State) (bytes : List Byte) : (s.respond bytes).input = s.input := rfl
@[simp] theorem State.respond_response (s : State) (bytes : List Byte) : (s.respond bytes).response = some ⟨.ok, bytes⟩ := rfl
@[simp] theorem State.respond_result (s : State) (bytes : List Byte) : (s.respond bytes).result = s.result := rfl

@[simp] theorem State.respondDrain_lifecycle (s : State) : s.respondDrain.lifecycle = s.lifecycle := rfl
@[simp] theorem State.respondDrain_width (s : State) : s.respondDrain.width = s.width := rfl
@[simp] theorem State.respondDrain_height (s : State) : s.respondDrain.height = s.height := rfl
@[simp] theorem State.respondDrain_colorType (s : State) : s.respondDrain.colorType = s.colorType := rfl
@[simp] theorem State.respondDrain_quality (s : State) : s.respondDrain.quality = s.quality := rfl
@[simp] theorem State.respondDrain_qtLuma (s : State) : s.respondDrain.qtLuma = s.qtLuma := rfl
@[simp] theorem State.respondDrain_qtChroma (s : State) : s.respondDrain.qtChroma = s.qtChroma := rfl
@[simp] theorem State.respondDrain_htDcLuma (s : State) : s.respondDrain.htDcLuma = s.htDcLuma := rfl
@[simp] theorem State.respondDrain_htAcLuma (s : State) : s.respondDrain.htAcLuma = s.htAcLuma := rfl
@[simp] theorem State.respondDrain_htDcChroma (s : State) : s.respondDrain.htDcChroma = s.htDcChroma := rfl
@[simp] theorem State.respondDrain_htAcChroma (s : State) : s.respondDrain.htAcChroma = s.htAcChroma := rfl
@[simp] theorem State.respondDrain_pending (s : State) : s.respondDrain.pending = s.pending := rfl
@[simp] theorem State.respondDrain_rowsReceived (s : State) : s.respondDrain.rowsReceived = s.rowsReceived := rfl
@[simp] theorem State.respondDrain_pred (s : State) : s.respondDrain.pred = s.pred := rfl
@[simp] theorem State.respondDrain_bitbuf (s : State) : s.respondDrain.bitbuf = s.bitbuf := rfl
@[simp] theorem State.respondDrain_out (s : State) : s.respondDrain.out = [] := rfl
@[simp] theorem State.respondDrain_input (s : State) : s.respondDrain.input = s.input := rfl
@[simp] theorem State.respondDrain_response (s : State) : s.respondDrain.response = some ⟨.ok, s.out⟩ := rfl
@[simp] theorem State.respondDrain_result (s : State) : s.respondDrain.result = s.result := rfl

end Sys2Proof.Machine
end

