-- ==== Sys2Proof/Laws/Ops.lean ====
section
/-! SUPPORT. One lemma for each shared operation on the coder's registers, saying what it can do: which
registers it keeps, that BITBUF stays within 7 bits, that OUT is only appended to. -/

namespace Sys2Proof.Machine

/-- `k'` comes after `k` by bit or byte writing: 7 bits at most stay held, and nothing leaves OUT. -/
def Coder.Grows (k k' : Coder) : Prop :=
  (k.bitbuf.length ≤ 7 → k'.bitbuf.length ≤ 7) ∧ k.out <+: k'.out

theorem Coder.Grows.refl (k : Coder) : k.Grows k := ⟨id, List.prefix_rfl⟩

theorem Coder.Grows.trans {a b c : Coder} (h : a.Grows b) (h' : b.Grows c) : a.Grows c :=
  ⟨h'.1 ∘ h.1, h.2.trans h'.2⟩

/-! ## Operand lists -/

theorem numberAt_of_getElem? (xs : List Int) (i : Nat) (v : Int) (h : xs[i]? = some v) : numberAt xs i = v := by
  simp [numberAt, List.getD, h]

theorem countAt_of_getElem? (xs : List Nat) (i v : Nat) (h : xs[i]? = some v) : countAt xs i = v := by
  simp [countAt, List.getD, h]

@[simp] theorem numbersOf_length (n : Nat) (xs : List Int) : (numbersOf n xs).length = n := by simp [numbersOf]

@[simp] theorem countsOf_length (n : Nat) (xs : List Nat) : (countsOf n xs).length = n := by simp [countsOf]

/-- The `n` entries of a list that has `n` are the list. -/
theorem numbersOf_self (n : Nat) (xs : List Int) (h : xs.length = n) : numbersOf n xs = xs := by
  subst h
  refine List.ext_getElem (by simp) fun i hi _ => ?_
  have hx : i < xs.length := by simpa using hi
  simp [numbersOf, numberAt, List.getD, List.getElem?_eq_getElem hx]

theorem countsOf_self (n : Nat) (xs : List Nat) (h : xs.length = n) : countsOf n xs = xs := by
  subst h
  refine List.ext_getElem (by simp) fun i hi _ => ?_
  have hx : i < xs.length := by simpa using hi
  simp [countsOf, countAt, List.getD, List.getElem?_eq_getElem hx]

/-- Reading an entry of the entries read is reading the list. -/
theorem numberAt_numbersOf (n : Nat) (xs : List Int) (i : Nat) (h : i < n) :
    numberAt (numbersOf n xs) i = numberAt xs i :=
  numberAt_of_getElem? _ _ _ (by simp [numbersOf, h])

theorem countAt_countsOf (n : Nat) (xs : List Nat) (i : Nat) (h : i < n) :
    countAt (countsOf n xs) i = countAt xs i :=
  countAt_of_getElem? _ _ _ (by simp [countsOf, h])

/-! ## Magnitude bits -/

/-- MAG(v, n) is an `n`-bit number. -/
theorem magOfInt_lt (v : Int) (n : Nat) : magOfInt v n < 2 ^ n := by
  unfold magOfInt
  have hpos : (0 : Int) < ((2 ^ n : Nat) : Int) := by exact_mod_cast Nat.two_pow_pos n
  have h1 := Int.emod_nonneg (if 0 ≤ v then v else v - 1) hpos.ne'
  have h2 := Int.emod_lt_of_pos (if 0 ≤ v then v else v - 1) hpos
  omega

/-! ## Bytes and bits -/

@[simp] theorem Coder.writeRaw_pred (k : Coder) (bytes : List Byte) : (k.writeRaw bytes).pred = k.pred := rfl
@[simp] theorem Coder.writeRaw_bitbuf (k : Coder) (bytes : List Byte) : (k.writeRaw bytes).bitbuf = k.bitbuf := rfl
@[simp] theorem Coder.writeRaw_out (k : Coder) (bytes : List Byte) : (k.writeRaw bytes).out = k.out ++ bytes := rfl

theorem Coder.writeRaw_grows (k : Coder) (bytes : List Byte) : k.Grows (k.writeRaw bytes) :=
  ⟨id, List.prefix_append _ _⟩

/-- EMIT_ECS writes OUT only, the byte with its stuffing. -/
theorem Coder.emitEcs_eq (k : Coder) (b : Byte) : k.emitEcs b = k.writeRaw (stuff [b]) := by
  unfold Coder.emitEcs stuff
  by_cases h : b = 0xFF#8 <;> simp [h]

@[simp] theorem Coder.putBit_pred (k : Coder) (b : Bool) : (k.putBit b).pred = k.pred := by
  unfold Coder.putBit
  split <;> simp [Coder.emitEcs_eq]

theorem Coder.putBit_grows (k : Coder) (b : Bool) : k.Grows (k.putBit b) := by
  unfold Coder.putBit
  split
  · exact ⟨fun _ => by simp, by simp [Coder.emitEcs_eq]⟩
  · exact ⟨fun _ => by simp; omega, List.prefix_rfl⟩

/-- PUTBITS of a bit sequence, bit by bit. -/
theorem Coder.foldl_putBit_pred (bits : List Bool) (k : Coder) : (bits.foldl Coder.putBit k).pred = k.pred := by
  induction bits generalizing k with
  | nil => rfl
  | cons b bits ih => simp [ih]

theorem Coder.foldl_putBit_grows (bits : List Bool) (k : Coder) : k.Grows (bits.foldl Coder.putBit k) := by
  induction bits generalizing k with
  | nil => exact .refl k
  | cons b bits ih => exact (k.putBit_grows b).trans (ih _)

@[simp] theorem Coder.putBits_pred (k : Coder) (v n : Nat) : (k.putBits v n).pred = k.pred :=
  Coder.foldl_putBit_pred _ _

theorem Coder.putBits_grows (k : Coder) (v n : Nat) : k.Grows (k.putBits v n) := Coder.foldl_putBit_grows _ _

@[simp] theorem Coder.putBits_zero (k : Coder) (v : Nat) : k.putBits v 0 = k := rfl

@[simp] theorem Coder.flush_pred (k : Coder) : k.flush.pred = k.pred := by
  unfold Coder.flush
  split <;> simp

theorem Coder.flush_grows (k : Coder) : k.Grows k.flush := by
  unfold Coder.flush
  split
  · exact Coder.putBits_grows _ _ _
  · exact .refl k

/-! ## Fields of a block -/

@[simp] theorem Coder.putCode_pred (k : Coder) (T : HuffTable) (sym : Nat) : (k.putCode T sym).pred = k.pred :=
  Coder.putBits_pred _ _ _

theorem Coder.putCode_grows (k : Coder) (T : HuffTable) (sym : Nat) : k.Grows (k.putCode T sym) :=
  Coder.putBits_grows _ _ _

@[simp] theorem Coder.putMag_pred (k : Coder) (v : Int) : (k.putMag v).pred = k.pred := Coder.putBits_pred _ _ _

theorem Coder.putMag_grows (k : Coder) (v : Int) : k.Grows (k.putMag v) := Coder.putBits_grows _ _ _

/-- ENC_DC writes PRED[c] with the value coded. -/
@[simp] theorem Coder.encDc_pred (k : Coder) (T : HuffTable) (dc : Int) (c : Fin 4) :
    (k.encDc T dc c).pred = k.pred.set c dc := by
  simp [Coder.encDc]

theorem Coder.encDc_grows (k : Coder) (T : HuffTable) (dc : Int) (c : Fin 4) : k.Grows (k.encDc T dc c) := by
  have h : k.Grows { k with pred := k.pred.set c dc } := ⟨id, List.prefix_rfl⟩
  exact h.trans ((Coder.putCode_grows _ _ _).trans (Coder.putMag_grows _ _))

theorem Coder.putZrls_pred (T : HuffTable) (n : Nat) (k : Coder) : (Coder.putZrls T n k).pred = k.pred := by
  induction n generalizing k with
  | zero => rfl
  | succ n ih => simp [Coder.putZrls, ih]

theorem Coder.putZrls_grows (T : HuffTable) (n : Nat) (k : Coder) : k.Grows (Coder.putZrls T n k) := by
  induction n generalizing k with
  | zero => exact .refl k
  | succ n ih => exact (k.putCode_grows T 0xF0).trans (ih _)

theorem Coder.acLoop_pred (T : HuffTable) (coefs : List Int) (run : Nat) (k : Coder) :
    (Coder.acLoop T coefs run k).pred = k.pred := by
  induction coefs generalizing run k with
  | nil => unfold Coder.acLoop; split <;> simp
  | cons a coefs ih => unfold Coder.acLoop; split <;> simp [ih, Coder.putZrls_pred]

theorem Coder.acLoop_grows (T : HuffTable) (coefs : List Int) (run : Nat) (k : Coder) :
    k.Grows (Coder.acLoop T coefs run k) := by
  induction coefs generalizing run k with
  | nil =>
    unfold Coder.acLoop
    split
    · exact Coder.putCode_grows _ _ _
    · exact .refl k
  | cons a coefs ih =>
    unfold Coder.acLoop
    split
    · exact ih _ _
    · exact (Coder.putZrls_grows _ _ _).trans
        ((Coder.putCode_grows _ _ _).trans ((Coder.putMag_grows _ _).trans (ih _ _)))

@[simp] theorem Coder.encAc_pred (k : Coder) (T : HuffTable) (zz : List Int) : (k.encAc T zz).pred = k.pred :=
  Coder.acLoop_pred _ _ _ _

theorem Coder.encAc_grows (k : Coder) (T : HuffTable) (zz : List Int) : k.Grows (k.encAc T zz) :=
  Coder.acLoop_grows _ _ _ _

/-- ENCBLK writes PRED[c] with the block's DC value. -/
@[simp] theorem Coder.encBlk_pred (k : Coder) (dcT acT : HuffTable) (q : List Int) (c : Fin 4) :
    (k.encBlk dcT acT q c).pred = k.pred.set c (numberAt (zigzagOrder q) 0) := by
  simp [Coder.encBlk]

theorem Coder.encBlk_grows (k : Coder) (dcT acT : HuffTable) (q : List Int) (c : Fin 4) :
    k.Grows (k.encBlk dcT acT q c) :=
  (Coder.encDc_grows _ _ _ _).trans (Coder.encAc_grows _ _ _)

/-! ## On the whole state -/

/-- WRITE_RAW writes OUT only. -/
theorem State.writeRaw_eq (s : State) (bytes : List Byte) : s.writeRaw bytes = s.withOut (s.out ++ bytes) := rfl

/-- `t` is `s` with bytes appended to OUT. -/
def State.Writes (s t : State) : Prop := ∃ bytes, t = s.withOut (s.out ++ bytes)

theorem State.Writes.refl (s : State) : s.Writes s := ⟨[], by rw [List.append_nil]; rfl⟩

theorem State.Writes.trans {a b c : State} : a.Writes b → b.Writes c → a.Writes c := by
  rintro ⟨x, rfl⟩ ⟨y, rfl⟩
  exact ⟨x ++ y, by rw [← List.append_assoc]; rfl⟩

theorem State.writeRaw_writes (s : State) (bytes : List Byte) : s.Writes (s.writeRaw bytes) := ⟨bytes, rfl⟩

theorem State.Writes.ite {p : Prop} [Decidable p] {s t u : State} (ht : s.Writes t) (hu : s.Writes u) :
    s.Writes (if p then t else u) := by
  split
  · exact ht
  · exact hu

/-- WRITE_HEADER writes OUT only. -/
theorem State.writeHeader_writes (s : State) : s.Writes s.writeHeader := by
  have h1 := s.writeRaw_writes soiBytes
  have h2 : ∀ t : State, t.Writes (if t.ncomp = 4 then t.writeApp14 else t.writeApp0) := fun t =>
    .ite (t.writeRaw_writes _) (t.writeRaw_writes _)
  have h4 : ∀ t : State, t.Writes (if t.ncomp > 1 then t.writeDqt 1 else t) := fun t =>
    .ite (t.writeRaw_writes _) (.refl t)
  have h5 : ∀ t : State, t.Writes ((t.writeSof0.writeDht 0 0).writeDht 1 0) := fun t =>
    ((t.writeRaw_writes _).trans (State.writeRaw_writes _ _)).trans (State.writeRaw_writes _ _)
  have h6 : ∀ t : State, t.Writes (if t.ncomp > 1 then (t.writeDht 0 1).writeDht 1 1 else t) := fun t =>
    .ite ((t.writeRaw_writes _).trans (State.writeRaw_writes _ _)) (.refl t)
  exact (((((h1.trans (h2 _)).trans (State.writeRaw_writes _ _)).trans (h4 _)).trans (h5 _)).trans (h6 _)).trans
    (State.writeRaw_writes _ _)

end Sys2Proof.Machine
end

