-- ==== Sys2Proof/Laws/PerInstr.lean ====
section
/-! SUPPORT. One lemma per instruction about the shape of its words in its code space. -/

namespace Sys2Proof

/-- The shape of an instruction's words: a packet has an opcode byte (R90), a response a status and a count
(R92), a pixel at most four bytes (R98), a segment begins FF (R101), and a Huffman code has 2 to 16 bits that
are not all 1 (R120, R122). -/
def Laws.WordShape.Statement (i : Instr) : Prop :=
  match encode i with
  | .packet bytes => 1 ≤ bytes.length
  | .response bytes => 5 ≤ bytes.length
  | .color _ pixel => pixel.length ≤ 4
  | .segment bytes => bytes.head? = some 0xFF
  | .code _ v n => 2 ≤ n ∧ n ≤ 16 ∧ v + 1 < 2 ^ n
  | .internal => True

theorem Laws.WordShape.construct (width : Quad) (height : Quad) (colorType : Byte) (quality : Byte) : Laws.WordShape.Statement (.construct width height colorType quality) :=
  Nat.le_of_ble_eq_true rfl

theorem Laws.WordShape.encodeStrip (rows : List Byte) : Laws.WordShape.Statement (.encodeStrip rows) :=
  Nat.succ_le_succ (Nat.zero_le _)

theorem Laws.WordShape.finish : Laws.WordShape.Statement .finish :=
  Nat.le_of_ble_eq_true rfl

theorem Laws.WordShape.takeOutput : Laws.WordShape.Statement .takeOutput :=
  Nat.le_of_ble_eq_true rfl

theorem Laws.WordShape.headerBytes (width : Quad) (height : Quad) (colorType : Byte) (quality : Byte) : Laws.WordShape.Statement (.headerBytes width height colorType quality) :=
  Nat.le_of_ble_eq_true rfl

theorem Laws.WordShape.footerBytes : Laws.WordShape.Statement .footerBytes :=
  Nat.le_of_ble_eq_true rfl

theorem Laws.WordShape.dispose : Laws.WordShape.Statement .dispose :=
  Nat.le_of_ble_eq_true rfl

theorem Laws.WordShape.reservedOp00 : Laws.WordShape.Statement .reservedOp00 :=
  Nat.le_of_ble_eq_true rfl

theorem Laws.WordShape.reservedOp08 (low : BitVec 3) : Laws.WordShape.Statement (.reservedOp08 low) :=
  Nat.le_of_ble_eq_true rfl

theorem Laws.WordShape.reservedOp10 (low : BitVec 4) : Laws.WordShape.Statement (.reservedOp10 low) :=
  Nat.le_of_ble_eq_true rfl

theorem Laws.WordShape.reservedOp20 (low : BitVec 5) : Laws.WordShape.Statement (.reservedOp20 low) :=
  Nat.le_of_ble_eq_true rfl

theorem Laws.WordShape.reservedOp40 (low : BitVec 6) : Laws.WordShape.Statement (.reservedOp40 low) :=
  Nat.le_of_ble_eq_true rfl

theorem Laws.WordShape.reservedOp80 (low : BitVec 7) : Laws.WordShape.Statement (.reservedOp80 low) :=
  Nat.le_of_ble_eq_true rfl

theorem Laws.WordShape.statusOk (bytes : List Byte) : Laws.WordShape.Statement (.statusOk bytes) :=
  Nat.le_add_left 5 bytes.length

theorem Laws.WordShape.statusInvalidDimension : Laws.WordShape.Statement .statusInvalidDimension :=
  Nat.le_of_ble_eq_true rfl

theorem Laws.WordShape.statusInvalidQuality : Laws.WordShape.Statement .statusInvalidQuality :=
  Nat.le_of_ble_eq_true rfl

theorem Laws.WordShape.statusMalformedStripLength : Laws.WordShape.Statement .statusMalformedStripLength :=
  Nat.le_of_ble_eq_true rfl

theorem Laws.WordShape.statusRowOverflow : Laws.WordShape.Statement .statusRowOverflow :=
  Nat.le_of_ble_eq_true rfl

theorem Laws.WordShape.statusIncompleteImage : Laws.WordShape.Statement .statusIncompleteImage :=
  Nat.le_of_ble_eq_true rfl

theorem Laws.WordShape.statusEncoderFinished : Laws.WordShape.Statement .statusEncoderFinished :=
  Nat.le_of_ble_eq_true rfl

theorem Laws.WordShape.statusInvalidColorType : Laws.WordShape.Statement .statusInvalidColorType :=
  Nat.le_of_ble_eq_true rfl

theorem Laws.WordShape.statusNotConstructed : Laws.WordShape.Statement .statusNotConstructed :=
  Nat.le_of_ble_eq_true rfl

theorem Laws.WordShape.statusIllegalCommand : Laws.WordShape.Statement .statusIllegalCommand :=
  Nat.le_of_ble_eq_true rfl

theorem Laws.WordShape.cvtLuma (p0 : Byte) : Laws.WordShape.Statement (.cvtLuma p0) :=
  Nat.le_of_ble_eq_true rfl

theorem Laws.WordShape.cvtRgb (p0 : Byte) (p1 : Byte) (p2 : Byte) : Laws.WordShape.Statement (.cvtRgb p0 p1 p2) :=
  Nat.le_of_ble_eq_true rfl

theorem Laws.WordShape.cvtRgba (p0 : Byte) (p1 : Byte) (p2 : Byte) (p3 : Byte) : Laws.WordShape.Statement (.cvtRgba p0 p1 p2 p3) :=
  Nat.le_of_ble_eq_true rfl

theorem Laws.WordShape.cvtBgr (p0 : Byte) (p1 : Byte) (p2 : Byte) : Laws.WordShape.Statement (.cvtBgr p0 p1 p2) :=
  Nat.le_of_ble_eq_true rfl

theorem Laws.WordShape.cvtBgra (p0 : Byte) (p1 : Byte) (p2 : Byte) (p3 : Byte) : Laws.WordShape.Statement (.cvtBgra p0 p1 p2 p3) :=
  Nat.le_of_ble_eq_true rfl

theorem Laws.WordShape.cvtYcbcr (p0 : Byte) (p1 : Byte) (p2 : Byte) : Laws.WordShape.Statement (.cvtYcbcr p0 p1 p2) :=
  Nat.le_of_ble_eq_true rfl

theorem Laws.WordShape.cvtCmyk (p0 : Byte) (p1 : Byte) (p2 : Byte) (p3 : Byte) : Laws.WordShape.Statement (.cvtCmyk p0 p1 p2 p3) :=
  Nat.le_of_ble_eq_true rfl

theorem Laws.WordShape.cvtCmykAsYcck (p0 : Byte) (p1 : Byte) (p2 : Byte) (p3 : Byte) : Laws.WordShape.Statement (.cvtCmykAsYcck p0 p1 p2 p3) :=
  Nat.le_of_ble_eq_true rfl

theorem Laws.WordShape.cvtYcck (p0 : Byte) (p1 : Byte) (p2 : Byte) (p3 : Byte) : Laws.WordShape.Statement (.cvtYcck p0 p1 p2 p3) :=
  Nat.le_of_ble_eq_true rfl

theorem Laws.WordShape.reservedColor09 : Laws.WordShape.Statement .reservedColor09 :=
  Nat.le_of_ble_eq_true rfl

theorem Laws.WordShape.reservedColor0A (low : BitVec 1) : Laws.WordShape.Statement (.reservedColor0A low) :=
  Nat.le_of_ble_eq_true rfl

theorem Laws.WordShape.reservedColor0C (low : BitVec 2) : Laws.WordShape.Statement (.reservedColor0C low) :=
  Nat.le_of_ble_eq_true rfl

theorem Laws.WordShape.reservedColor10 (low : BitVec 4) : Laws.WordShape.Statement (.reservedColor10 low) :=
  Nat.le_of_ble_eq_true rfl

theorem Laws.WordShape.reservedColor20 (low : BitVec 5) : Laws.WordShape.Statement (.reservedColor20 low) :=
  Nat.le_of_ble_eq_true rfl

theorem Laws.WordShape.reservedColor40 (low : BitVec 6) : Laws.WordShape.Statement (.reservedColor40 low) :=
  Nat.le_of_ble_eq_true rfl

theorem Laws.WordShape.reservedColor80 (low : BitVec 7) : Laws.WordShape.Statement (.reservedColor80 low) :=
  Nat.le_of_ble_eq_true rfl

theorem Laws.WordShape.writeSoi : Laws.WordShape.Statement .writeSoi :=
  rfl

theorem Laws.WordShape.writeApp0 : Laws.WordShape.Statement .writeApp0 :=
  rfl

theorem Laws.WordShape.writeApp14 : Laws.WordShape.Statement .writeApp14 :=
  rfl

theorem Laws.WordShape.writeDqt (t : Fin 2) : Laws.WordShape.Statement (.writeDqt t) :=
  rfl

theorem Laws.WordShape.writeSof0 : Laws.WordShape.Statement .writeSof0 :=
  rfl

theorem Laws.WordShape.writeDht (cls : Fin 2) (h : Fin 2) : Laws.WordShape.Statement (.writeDht cls h) :=
  rfl

theorem Laws.WordShape.writeSos : Laws.WordShape.Statement .writeSos :=
  rfl

theorem Laws.WordShape.writeEoi : Laws.WordShape.Statement .writeEoi :=
  rfl

theorem Laws.WordShape.rgb2ycc (r : Byte) (g : Byte) (b : Byte) : Laws.WordShape.Statement (.rgb2ycc r g b) :=
  trivial

theorem Laws.WordShape.convertRow (strip : List Byte) (off : Nat) : Laws.WordShape.Statement (.convertRow strip off) :=
  trivial

theorem Laws.WordShape.appendRows (rows : List Byte) (n : Nat) : Laws.WordShape.Statement (.appendRows rows n) :=
  trivial

theorem Laws.WordShape.band : Laws.WordShape.Statement .band :=
  trivial

theorem Laws.WordShape.padBand : Laws.WordShape.Statement .padBand :=
  trivial

theorem Laws.WordShape.qscale (base : List Nat) (quality : Nat) : Laws.WordShape.Statement (.qscale base quality) :=
  trivial

theorem Laws.WordShape.extract (bx : Nat) (c : Fin 4) : Laws.WordShape.Statement (.extract bx c) :=
  trivial

theorem Laws.WordShape.fdct1d (d : List Int) (first : Bool) : Laws.WordShape.Statement (.fdct1d d first) :=
  trivial

theorem Laws.WordShape.fdct (blk : List Int) : Laws.WordShape.Statement (.fdct blk) :=
  trivial

theorem Laws.WordShape.quant (coef : List Int) (t : Fin 2) : Laws.WordShape.Statement (.quant coef t) :=
  trivial

theorem Laws.WordShape.transform (blk : List Int) (t : Fin 2) : Laws.WordShape.Statement (.transform blk t) :=
  trivial

theorem Laws.WordShape.huffgen (bits : List Nat) (vals : List Byte) : Laws.WordShape.Statement (.huffgen bits vals) :=
  trivial

theorem Laws.WordShape.size (v : Int) : Laws.WordShape.Statement (.size v) :=
  trivial

theorem Laws.WordShape.mag (v : Int) (n : Nat) : Laws.WordShape.Statement (.mag v n) :=
  trivial

theorem Laws.WordShape.encDc (dc : Int) (c : Fin 4) : Laws.WordShape.Statement (.encDc dc c) :=
  trivial

theorem Laws.WordShape.encAc (zz : List Int) (c : Fin 4) : Laws.WordShape.Statement (.encAc zz c) :=
  trivial

theorem Laws.WordShape.encblk (q : List Int) (c : Fin 4) : Laws.WordShape.Statement (.encblk q c) :=
  trivial

theorem Laws.WordShape.putbits (v : Nat) (n : Nat) : Laws.WordShape.Statement (.putbits v n) :=
  trivial

theorem Laws.WordShape.emitEcs (b : Byte) : Laws.WordShape.Statement (.emitEcs b) :=
  trivial

theorem Laws.WordShape.flush : Laws.WordShape.Statement .flush :=
  trivial

theorem Laws.WordShape.writeRaw (bytes : List Byte) : Laws.WordShape.Statement (.writeRaw bytes) :=
  trivial

theorem Laws.WordShape.writeHeader : Laws.WordShape.Statement .writeHeader :=
  trivial

theorem Laws.WordShape.huffDc0_00 : Laws.WordShape.Statement .huffDc0_00 :=
  ⟨of_decide_eq_true rfl, of_decide_eq_true rfl, of_decide_eq_true rfl⟩

theorem Laws.WordShape.huffDc0_01 : Laws.WordShape.Statement .huffDc0_01 :=
  ⟨of_decide_eq_true rfl, of_decide_eq_true rfl, of_decide_eq_true rfl⟩

theorem Laws.WordShape.huffDc0_02 : Laws.WordShape.Statement .huffDc0_02 :=
  ⟨of_decide_eq_true rfl, of_decide_eq_true rfl, of_decide_eq_true rfl⟩

theorem Laws.WordShape.huffDc0_03 : Laws.WordShape.Statement .huffDc0_03 :=
  ⟨of_decide_eq_true rfl, of_decide_eq_true rfl, of_decide_eq_true rfl⟩

theorem Laws.WordShape.huffDc0_04 : Laws.WordShape.Statement .huffDc0_04 :=
  ⟨of_decide_eq_true rfl, of_decide_eq_true rfl, of_decide_eq_true rfl⟩

theorem Laws.WordShape.huffDc0_05 : Laws.WordShape.Statement .huffDc0_05 :=
  ⟨of_decide_eq_true rfl, of_decide_eq_true rfl, of_decide_eq_true rfl⟩

theorem Laws.WordShape.huffDc0_06 : Laws.WordShape.Statement .huffDc0_06 :=
  ⟨of_decide_eq_true rfl, of_decide_eq_true rfl, of_decide_eq_true rfl⟩

theorem Laws.WordShape.huffDc0_07 : Laws.WordShape.Statement .huffDc0_07 :=
  ⟨of_decide_eq_true rfl, of_decide_eq_true rfl, of_decide_eq_true rfl⟩

theorem Laws.WordShape.huffDc0_08 : Laws.WordShape.Statement .huffDc0_08 :=
  ⟨of_decide_eq_true rfl, of_decide_eq_true rfl, of_decide_eq_true rfl⟩

theorem Laws.WordShape.huffDc0_09 : Laws.WordShape.Statement .huffDc0_09 :=
  ⟨of_decide_eq_true rfl, of_decide_eq_true rfl, of_decide_eq_true rfl⟩

theorem Laws.WordShape.huffDc0_0A : Laws.WordShape.Statement .huffDc0_0A :=
  ⟨of_decide_eq_true rfl, of_decide_eq_true rfl, of_decide_eq_true rfl⟩

theorem Laws.WordShape.huffDc0_0B : Laws.WordShape.Statement .huffDc0_0B :=
  ⟨of_decide_eq_true rfl, of_decide_eq_true rfl, of_decide_eq_true rfl⟩

theorem Laws.WordShape.huffAc0_01 : Laws.WordShape.Statement .huffAc0_01 :=
  ⟨of_decide_eq_true rfl, of_decide_eq_true rfl, of_decide_eq_true rfl⟩

theorem Laws.WordShape.huffAc0_02 : Laws.WordShape.Statement .huffAc0_02 :=
  ⟨of_decide_eq_true rfl, of_decide_eq_true rfl, of_decide_eq_true rfl⟩

theorem Laws.WordShape.huffAc0_03 : Laws.WordShape.Statement .huffAc0_03 :=
  ⟨of_decide_eq_true rfl, of_decide_eq_true rfl, of_decide_eq_true rfl⟩

theorem Laws.WordShape.huffAc0_00 : Laws.WordShape.Statement .huffAc0_00 :=
  ⟨of_decide_eq_true rfl, of_decide_eq_true rfl, of_decide_eq_true rfl⟩

theorem Laws.WordShape.huffAc0_04 : Laws.WordShape.Statement .huffAc0_04 :=
  ⟨of_decide_eq_true rfl, of_decide_eq_true rfl, of_decide_eq_true rfl⟩

theorem Laws.WordShape.huffAc0_11 : Laws.WordShape.Statement .huffAc0_11 :=
  ⟨of_decide_eq_true rfl, of_decide_eq_true rfl, of_decide_eq_true rfl⟩

theorem Laws.WordShape.huffAc0_05 : Laws.WordShape.Statement .huffAc0_05 :=
  ⟨of_decide_eq_true rfl, of_decide_eq_true rfl, of_decide_eq_true rfl⟩

theorem Laws.WordShape.huffAc0_12 : Laws.WordShape.Statement .huffAc0_12 :=
  ⟨of_decide_eq_true rfl, of_decide_eq_true rfl, of_decide_eq_true rfl⟩

theorem Laws.WordShape.huffAc0_21 : Laws.WordShape.Statement .huffAc0_21 :=
  ⟨of_decide_eq_true rfl, of_decide_eq_true rfl, of_decide_eq_true rfl⟩

theorem Laws.WordShape.huffAc0_31 : Laws.WordShape.Statement .huffAc0_31 :=
  ⟨of_decide_eq_true rfl, of_decide_eq_true rfl, of_decide_eq_true rfl⟩

theorem Laws.WordShape.huffAc0_41 : Laws.WordShape.Statement .huffAc0_41 :=
  ⟨of_decide_eq_true rfl, of_decide_eq_true rfl, of_decide_eq_true rfl⟩

theorem Laws.WordShape.huffAc0_06 : Laws.WordShape.Statement .huffAc0_06 :=
  ⟨of_decide_eq_true rfl, of_decide_eq_true rfl, of_decide_eq_true rfl⟩

theorem Laws.WordShape.huffAc0_13 : Laws.WordShape.Statement .huffAc0_13 :=
  ⟨of_decide_eq_true rfl, of_decide_eq_true rfl, of_decide_eq_true rfl⟩

theorem Laws.WordShape.huffAc0_51 : Laws.WordShape.Statement .huffAc0_51 :=
  ⟨of_decide_eq_true rfl, of_decide_eq_true rfl, of_decide_eq_true rfl⟩

theorem Laws.WordShape.huffAc0_61 : Laws.WordShape.Statement .huffAc0_61 :=
  ⟨of_decide_eq_true rfl, of_decide_eq_true rfl, of_decide_eq_true rfl⟩

theorem Laws.WordShape.huffAc0_07 : Laws.WordShape.Statement .huffAc0_07 :=
  ⟨of_decide_eq_true rfl, of_decide_eq_true rfl, of_decide_eq_true rfl⟩

theorem Laws.WordShape.huffAc0_22 : Laws.WordShape.Statement .huffAc0_22 :=
  ⟨of_decide_eq_true rfl, of_decide_eq_true rfl, of_decide_eq_true rfl⟩

theorem Laws.WordShape.huffAc0_71 : Laws.WordShape.Statement .huffAc0_71 :=
  ⟨of_decide_eq_true rfl, of_decide_eq_true rfl, of_decide_eq_true rfl⟩

theorem Laws.WordShape.huffAc0_14 : Laws.WordShape.Statement .huffAc0_14 :=
  ⟨of_decide_eq_true rfl, of_decide_eq_true rfl, of_decide_eq_true rfl⟩

theorem Laws.WordShape.huffAc0_32 : Laws.WordShape.Statement .huffAc0_32 :=
  ⟨of_decide_eq_true rfl, of_decide_eq_true rfl, of_decide_eq_true rfl⟩

theorem Laws.WordShape.huffAc0_81 : Laws.WordShape.Statement .huffAc0_81 :=
  ⟨of_decide_eq_true rfl, of_decide_eq_true rfl, of_decide_eq_true rfl⟩

theorem Laws.WordShape.huffAc0_91 : Laws.WordShape.Statement .huffAc0_91 :=
  ⟨of_decide_eq_true rfl, of_decide_eq_true rfl, of_decide_eq_true rfl⟩

theorem Laws.WordShape.huffAc0_A1 : Laws.WordShape.Statement .huffAc0_A1 :=
  ⟨of_decide_eq_true rfl, of_decide_eq_true rfl, of_decide_eq_true rfl⟩

theorem Laws.WordShape.huffAc0_08 : Laws.WordShape.Statement .huffAc0_08 :=
  ⟨of_decide_eq_true rfl, of_decide_eq_true rfl, of_decide_eq_true rfl⟩

theorem Laws.WordShape.huffAc0_23 : Laws.WordShape.Statement .huffAc0_23 :=
  ⟨of_decide_eq_true rfl, of_decide_eq_true rfl, of_decide_eq_true rfl⟩

theorem Laws.WordShape.huffAc0_42 : Laws.WordShape.Statement .huffAc0_42 :=
  ⟨of_decide_eq_true rfl, of_decide_eq_true rfl, of_decide_eq_true rfl⟩

theorem Laws.WordShape.huffAc0_B1 : Laws.WordShape.Statement .huffAc0_B1 :=
  ⟨of_decide_eq_true rfl, of_decide_eq_true rfl, of_decide_eq_true rfl⟩

theorem Laws.WordShape.huffAc0_C1 : Laws.WordShape.Statement .huffAc0_C1 :=
  ⟨of_decide_eq_true rfl, of_decide_eq_true rfl, of_decide_eq_true rfl⟩

theorem Laws.WordShape.huffAc0_15 : Laws.WordShape.Statement .huffAc0_15 :=
  ⟨of_decide_eq_true rfl, of_decide_eq_true rfl, of_decide_eq_true rfl⟩

theorem Laws.WordShape.huffAc0_52 : Laws.WordShape.Statement .huffAc0_52 :=
  ⟨of_decide_eq_true rfl, of_decide_eq_true rfl, of_decide_eq_true rfl⟩

theorem Laws.WordShape.huffAc0_D1 : Laws.WordShape.Statement .huffAc0_D1 :=
  ⟨of_decide_eq_true rfl, of_decide_eq_true rfl, of_decide_eq_true rfl⟩

theorem Laws.WordShape.huffAc0_F0 : Laws.WordShape.Statement .huffAc0_F0 :=
  ⟨of_decide_eq_true rfl, of_decide_eq_true rfl, of_decide_eq_true rfl⟩

theorem Laws.WordShape.huffAc0_24 : Laws.WordShape.Statement .huffAc0_24 :=
  ⟨of_decide_eq_true rfl, of_decide_eq_true rfl, of_decide_eq_true rfl⟩

theorem Laws.WordShape.huffAc0_33 : Laws.WordShape.Statement .huffAc0_33 :=
  ⟨of_decide_eq_true rfl, of_decide_eq_true rfl, of_decide_eq_true rfl⟩

theorem Laws.WordShape.huffAc0_62 : Laws.WordShape.Statement .huffAc0_62 :=
  ⟨of_decide_eq_true rfl, of_decide_eq_true rfl, of_decide_eq_true rfl⟩

theorem Laws.WordShape.huffAc0_72 : Laws.WordShape.Statement .huffAc0_72 :=
  ⟨of_decide_eq_true rfl, of_decide_eq_true rfl, of_decide_eq_true rfl⟩

theorem Laws.WordShape.huffAc0_82 : Laws.WordShape.Statement .huffAc0_82 :=
  ⟨of_decide_eq_true rfl, of_decide_eq_true rfl, of_decide_eq_true rfl⟩

theorem Laws.WordShape.huffAc0_09 : Laws.WordShape.Statement .huffAc0_09 :=
  ⟨of_decide_eq_true rfl, of_decide_eq_true rfl, of_decide_eq_true rfl⟩

theorem Laws.WordShape.huffAc0_0A : Laws.WordShape.Statement .huffAc0_0A :=
  ⟨of_decide_eq_true rfl, of_decide_eq_true rfl, of_decide_eq_true rfl⟩

theorem Laws.WordShape.huffAc0_16 : Laws.WordShape.Statement .huffAc0_16 :=
  ⟨of_decide_eq_true rfl, of_decide_eq_true rfl, of_decide_eq_true rfl⟩

theorem Laws.WordShape.huffAc0_17 : Laws.WordShape.Statement .huffAc0_17 :=
  ⟨of_decide_eq_true rfl, of_decide_eq_true rfl, of_decide_eq_true rfl⟩

theorem Laws.WordShape.huffAc0_18 : Laws.WordShape.Statement .huffAc0_18 :=
  ⟨of_decide_eq_true rfl, of_decide_eq_true rfl, of_decide_eq_true rfl⟩

theorem Laws.WordShape.huffAc0_19 : Laws.WordShape.Statement .huffAc0_19 :=
  ⟨of_decide_eq_true rfl, of_decide_eq_true rfl, of_decide_eq_true rfl⟩

theorem Laws.WordShape.huffAc0_1A : Laws.WordShape.Statement .huffAc0_1A :=
  ⟨of_decide_eq_true rfl, of_decide_eq_true rfl, of_decide_eq_true rfl⟩

theorem Laws.WordShape.huffAc0_25 : Laws.WordShape.Statement .huffAc0_25 :=
  ⟨of_decide_eq_true rfl, of_decide_eq_true rfl, of_decide_eq_true rfl⟩

theorem Laws.WordShape.huffAc0_26 : Laws.WordShape.Statement .huffAc0_26 :=
  ⟨of_decide_eq_true rfl, of_decide_eq_true rfl, of_decide_eq_true rfl⟩

theorem Laws.WordShape.huffAc0_27 : Laws.WordShape.Statement .huffAc0_27 :=
  ⟨of_decide_eq_true rfl, of_decide_eq_true rfl, of_decide_eq_true rfl⟩

theorem Laws.WordShape.huffAc0_28 : Laws.WordShape.Statement .huffAc0_28 :=
  ⟨of_decide_eq_true rfl, of_decide_eq_true rfl, of_decide_eq_true rfl⟩

theorem Laws.WordShape.huffAc0_29 : Laws.WordShape.Statement .huffAc0_29 :=
  ⟨of_decide_eq_true rfl, of_decide_eq_true rfl, of_decide_eq_true rfl⟩

theorem Laws.WordShape.huffAc0_2A : Laws.WordShape.Statement .huffAc0_2A :=
  ⟨of_decide_eq_true rfl, of_decide_eq_true rfl, of_decide_eq_true rfl⟩

theorem Laws.WordShape.huffAc0_34 : Laws.WordShape.Statement .huffAc0_34 :=
  ⟨of_decide_eq_true rfl, of_decide_eq_true rfl, of_decide_eq_true rfl⟩

theorem Laws.WordShape.huffAc0_35 : Laws.WordShape.Statement .huffAc0_35 :=
  ⟨of_decide_eq_true rfl, of_decide_eq_true rfl, of_decide_eq_true rfl⟩

theorem Laws.WordShape.huffAc0_36 : Laws.WordShape.Statement .huffAc0_36 :=
  ⟨of_decide_eq_true rfl, of_decide_eq_true rfl, of_decide_eq_true rfl⟩

theorem Laws.WordShape.huffAc0_37 : Laws.WordShape.Statement .huffAc0_37 :=
  ⟨of_decide_eq_true rfl, of_decide_eq_true rfl, of_decide_eq_true rfl⟩

theorem Laws.WordShape.huffAc0_38 : Laws.WordShape.Statement .huffAc0_38 :=
  ⟨of_decide_eq_true rfl, of_decide_eq_true rfl, of_decide_eq_true rfl⟩

theorem Laws.WordShape.huffAc0_39 : Laws.WordShape.Statement .huffAc0_39 :=
  ⟨of_decide_eq_true rfl, of_decide_eq_true rfl, of_decide_eq_true rfl⟩

theorem Laws.WordShape.huffAc0_3A : Laws.WordShape.Statement .huffAc0_3A :=
  ⟨of_decide_eq_true rfl, of_decide_eq_true rfl, of_decide_eq_true rfl⟩

theorem Laws.WordShape.huffAc0_43 : Laws.WordShape.Statement .huffAc0_43 :=
  ⟨of_decide_eq_true rfl, of_decide_eq_true rfl, of_decide_eq_true rfl⟩

theorem Laws.WordShape.huffAc0_44 : Laws.WordShape.Statement .huffAc0_44 :=
  ⟨of_decide_eq_true rfl, of_decide_eq_true rfl, of_decide_eq_true rfl⟩

theorem Laws.WordShape.huffAc0_45 : Laws.WordShape.Statement .huffAc0_45 :=
  ⟨of_decide_eq_true rfl, of_decide_eq_true rfl, of_decide_eq_true rfl⟩

theorem Laws.WordShape.huffAc0_46 : Laws.WordShape.Statement .huffAc0_46 :=
  ⟨of_decide_eq_true rfl, of_decide_eq_true rfl, of_decide_eq_true rfl⟩

theorem Laws.WordShape.huffAc0_47 : Laws.WordShape.Statement .huffAc0_47 :=
  ⟨of_decide_eq_true rfl, of_decide_eq_true rfl, of_decide_eq_true rfl⟩

theorem Laws.WordShape.huffAc0_48 : Laws.WordShape.Statement .huffAc0_48 :=
  ⟨of_decide_eq_true rfl, of_decide_eq_true rfl, of_decide_eq_true rfl⟩

theorem Laws.WordShape.huffAc0_49 : Laws.WordShape.Statement .huffAc0_49 :=
  ⟨of_decide_eq_true rfl, of_decide_eq_true rfl, of_decide_eq_true rfl⟩

theorem Laws.WordShape.huffAc0_4A : Laws.WordShape.Statement .huffAc0_4A :=
  ⟨of_decide_eq_true rfl, of_decide_eq_true rfl, of_decide_eq_true rfl⟩

theorem Laws.WordShape.huffAc0_53 : Laws.WordShape.Statement .huffAc0_53 :=
  ⟨of_decide_eq_true rfl, of_decide_eq_true rfl, of_decide_eq_true rfl⟩

theorem Laws.WordShape.huffAc0_54 : Laws.WordShape.Statement .huffAc0_54 :=
  ⟨of_decide_eq_true rfl, of_decide_eq_true rfl, of_decide_eq_true rfl⟩

theorem Laws.WordShape.huffAc0_55 : Laws.WordShape.Statement .huffAc0_55 :=
  ⟨of_decide_eq_true rfl, of_decide_eq_true rfl, of_decide_eq_true rfl⟩

theorem Laws.WordShape.huffAc0_56 : Laws.WordShape.Statement .huffAc0_56 :=
  ⟨of_decide_eq_true rfl, of_decide_eq_true rfl, of_decide_eq_true rfl⟩

theorem Laws.WordShape.huffAc0_57 : Laws.WordShape.Statement .huffAc0_57 :=
  ⟨of_decide_eq_true rfl, of_decide_eq_true rfl, of_decide_eq_true rfl⟩

theorem Laws.WordShape.huffAc0_58 : Laws.WordShape.Statement .huffAc0_58 :=
  ⟨of_decide_eq_true rfl, of_decide_eq_true rfl, of_decide_eq_true rfl⟩

theorem Laws.WordShape.huffAc0_59 : Laws.WordShape.Statement .huffAc0_59 :=
  ⟨of_decide_eq_true rfl, of_decide_eq_true rfl, of_decide_eq_true rfl⟩

theorem Laws.WordShape.huffAc0_5A : Laws.WordShape.Statement .huffAc0_5A :=
  ⟨of_decide_eq_true rfl, of_decide_eq_true rfl, of_decide_eq_true rfl⟩

theorem Laws.WordShape.huffAc0_63 : Laws.WordShape.Statement .huffAc0_63 :=
  ⟨of_decide_eq_true rfl, of_decide_eq_true rfl, of_decide_eq_true rfl⟩

theorem Laws.WordShape.huffAc0_64 : Laws.WordShape.Statement .huffAc0_64 :=
  ⟨of_decide_eq_true rfl, of_decide_eq_true rfl, of_decide_eq_true rfl⟩

theorem Laws.WordShape.huffAc0_65 : Laws.WordShape.Statement .huffAc0_65 :=
  ⟨of_decide_eq_true rfl, of_decide_eq_true rfl, of_decide_eq_true rfl⟩

theorem Laws.WordShape.huffAc0_66 : Laws.WordShape.Statement .huffAc0_66 :=
  ⟨of_decide_eq_true rfl, of_decide_eq_true rfl, of_decide_eq_true rfl⟩

theorem Laws.WordShape.huffAc0_67 : Laws.WordShape.Statement .huffAc0_67 :=
  ⟨of_decide_eq_true rfl, of_decide_eq_true rfl, of_decide_eq_true rfl⟩

theorem Laws.WordShape.huffAc0_68 : Laws.WordShape.Statement .huffAc0_68 :=
  ⟨of_decide_eq_true rfl, of_decide_eq_true rfl, of_decide_eq_true rfl⟩

theorem Laws.WordShape.huffAc0_69 : Laws.WordShape.Statement .huffAc0_69 :=
  ⟨of_decide_eq_true rfl, of_decide_eq_true rfl, of_decide_eq_true rfl⟩

theorem Laws.WordShape.huffAc0_6A : Laws.WordShape.Statement .huffAc0_6A :=
  ⟨of_decide_eq_true rfl, of_decide_eq_true rfl, of_decide_eq_true rfl⟩

theorem Laws.WordShape.huffAc0_73 : Laws.WordShape.Statement .huffAc0_73 :=
  ⟨of_decide_eq_true rfl, of_decide_eq_true rfl, of_decide_eq_true rfl⟩

theorem Laws.WordShape.huffAc0_74 : Laws.WordShape.Statement .huffAc0_74 :=
  ⟨of_decide_eq_true rfl, of_decide_eq_true rfl, of_decide_eq_true rfl⟩

theorem Laws.WordShape.huffAc0_75 : Laws.WordShape.Statement .huffAc0_75 :=
  ⟨of_decide_eq_true rfl, of_decide_eq_true rfl, of_decide_eq_true rfl⟩

theorem Laws.WordShape.huffAc0_76 : Laws.WordShape.Statement .huffAc0_76 :=
  ⟨of_decide_eq_true rfl, of_decide_eq_true rfl, of_decide_eq_true rfl⟩

theorem Laws.WordShape.huffAc0_77 : Laws.WordShape.Statement .huffAc0_77 :=
  ⟨of_decide_eq_true rfl, of_decide_eq_true rfl, of_decide_eq_true rfl⟩

theorem Laws.WordShape.huffAc0_78 : Laws.WordShape.Statement .huffAc0_78 :=
  ⟨of_decide_eq_true rfl, of_decide_eq_true rfl, of_decide_eq_true rfl⟩

theorem Laws.WordShape.huffAc0_79 : Laws.WordShape.Statement .huffAc0_79 :=
  ⟨of_decide_eq_true rfl, of_decide_eq_true rfl, of_decide_eq_true rfl⟩

theorem Laws.WordShape.huffAc0_7A : Laws.WordShape.Statement .huffAc0_7A :=
  ⟨of_decide_eq_true rfl, of_decide_eq_true rfl, of_decide_eq_true rfl⟩

theorem Laws.WordShape.huffAc0_83 : Laws.WordShape.Statement .huffAc0_83 :=
  ⟨of_decide_eq_true rfl, of_decide_eq_true rfl, of_decide_eq_true rfl⟩

theorem Laws.WordShape.huffAc0_84 : Laws.WordShape.Statement .huffAc0_84 :=
  ⟨of_decide_eq_true rfl, of_decide_eq_true rfl, of_decide_eq_true rfl⟩

theorem Laws.WordShape.huffAc0_85 : Laws.WordShape.Statement .huffAc0_85 :=
  ⟨of_decide_eq_true rfl, of_decide_eq_true rfl, of_decide_eq_true rfl⟩

theorem Laws.WordShape.huffAc0_86 : Laws.WordShape.Statement .huffAc0_86 :=
  ⟨of_decide_eq_true rfl, of_decide_eq_true rfl, of_decide_eq_true rfl⟩

theorem Laws.WordShape.huffAc0_87 : Laws.WordShape.Statement .huffAc0_87 :=
  ⟨of_decide_eq_true rfl, of_decide_eq_true rfl, of_decide_eq_true rfl⟩

theorem Laws.WordShape.huffAc0_88 : Laws.WordShape.Statement .huffAc0_88 :=
  ⟨of_decide_eq_true rfl, of_decide_eq_true rfl, of_decide_eq_true rfl⟩

theorem Laws.WordShape.huffAc0_89 : Laws.WordShape.Statement .huffAc0_89 :=
  ⟨of_decide_eq_true rfl, of_decide_eq_true rfl, of_decide_eq_true rfl⟩

theorem Laws.WordShape.huffAc0_8A : Laws.WordShape.Statement .huffAc0_8A :=
  ⟨of_decide_eq_true rfl, of_decide_eq_true rfl, of_decide_eq_true rfl⟩

theorem Laws.WordShape.huffAc0_92 : Laws.WordShape.Statement .huffAc0_92 :=
  ⟨of_decide_eq_true rfl, of_decide_eq_true rfl, of_decide_eq_true rfl⟩

theorem Laws.WordShape.huffAc0_93 : Laws.WordShape.Statement .huffAc0_93 :=
  ⟨of_decide_eq_true rfl, of_decide_eq_true rfl, of_decide_eq_true rfl⟩

theorem Laws.WordShape.huffAc0_94 : Laws.WordShape.Statement .huffAc0_94 :=
  ⟨of_decide_eq_true rfl, of_decide_eq_true rfl, of_decide_eq_true rfl⟩

theorem Laws.WordShape.huffAc0_95 : Laws.WordShape.Statement .huffAc0_95 :=
  ⟨of_decide_eq_true rfl, of_decide_eq_true rfl, of_decide_eq_true rfl⟩

theorem Laws.WordShape.huffAc0_96 : Laws.WordShape.Statement .huffAc0_96 :=
  ⟨of_decide_eq_true rfl, of_decide_eq_true rfl, of_decide_eq_true rfl⟩

theorem Laws.WordShape.huffAc0_97 : Laws.WordShape.Statement .huffAc0_97 :=
  ⟨of_decide_eq_true rfl, of_decide_eq_true rfl, of_decide_eq_true rfl⟩

theorem Laws.WordShape.huffAc0_98 : Laws.WordShape.Statement .huffAc0_98 :=
  ⟨of_decide_eq_true rfl, of_decide_eq_true rfl, of_decide_eq_true rfl⟩

theorem Laws.WordShape.huffAc0_99 : Laws.WordShape.Statement .huffAc0_99 :=
  ⟨of_decide_eq_true rfl, of_decide_eq_true rfl, of_decide_eq_true rfl⟩

theorem Laws.WordShape.huffAc0_9A : Laws.WordShape.Statement .huffAc0_9A :=
  ⟨of_decide_eq_true rfl, of_decide_eq_true rfl, of_decide_eq_true rfl⟩

theorem Laws.WordShape.huffAc0_A2 : Laws.WordShape.Statement .huffAc0_A2 :=
  ⟨of_decide_eq_true rfl, of_decide_eq_true rfl, of_decide_eq_true rfl⟩

theorem Laws.WordShape.huffAc0_A3 : Laws.WordShape.Statement .huffAc0_A3 :=
  ⟨of_decide_eq_true rfl, of_decide_eq_true rfl, of_decide_eq_true rfl⟩

theorem Laws.WordShape.huffAc0_A4 : Laws.WordShape.Statement .huffAc0_A4 :=
  ⟨of_decide_eq_true rfl, of_decide_eq_true rfl, of_decide_eq_true rfl⟩

theorem Laws.WordShape.huffAc0_A5 : Laws.WordShape.Statement .huffAc0_A5 :=
  ⟨of_decide_eq_true rfl, of_decide_eq_true rfl, of_decide_eq_true rfl⟩

theorem Laws.WordShape.huffAc0_A6 : Laws.WordShape.Statement .huffAc0_A6 :=
  ⟨of_decide_eq_true rfl, of_decide_eq_true rfl, of_decide_eq_true rfl⟩

theorem Laws.WordShape.huffAc0_A7 : Laws.WordShape.Statement .huffAc0_A7 :=
  ⟨of_decide_eq_true rfl, of_decide_eq_true rfl, of_decide_eq_true rfl⟩

theorem Laws.WordShape.huffAc0_A8 : Laws.WordShape.Statement .huffAc0_A8 :=
  ⟨of_decide_eq_true rfl, of_decide_eq_true rfl, of_decide_eq_true rfl⟩

theorem Laws.WordShape.huffAc0_A9 : Laws.WordShape.Statement .huffAc0_A9 :=
  ⟨of_decide_eq_true rfl, of_decide_eq_true rfl, of_decide_eq_true rfl⟩

theorem Laws.WordShape.huffAc0_AA : Laws.WordShape.Statement .huffAc0_AA :=
  ⟨of_decide_eq_true rfl, of_decide_eq_true rfl, of_decide_eq_true rfl⟩

theorem Laws.WordShape.huffAc0_B2 : Laws.WordShape.Statement .huffAc0_B2 :=
  ⟨of_decide_eq_true rfl, of_decide_eq_true rfl, of_decide_eq_true rfl⟩

theorem Laws.WordShape.huffAc0_B3 : Laws.WordShape.Statement .huffAc0_B3 :=
  ⟨of_decide_eq_true rfl, of_decide_eq_true rfl, of_decide_eq_true rfl⟩

theorem Laws.WordShape.huffAc0_B4 : Laws.WordShape.Statement .huffAc0_B4 :=
  ⟨of_decide_eq_true rfl, of_decide_eq_true rfl, of_decide_eq_true rfl⟩

theorem Laws.WordShape.huffAc0_B5 : Laws.WordShape.Statement .huffAc0_B5 :=
  ⟨of_decide_eq_true rfl, of_decide_eq_true rfl, of_decide_eq_true rfl⟩

theorem Laws.WordShape.huffAc0_B6 : Laws.WordShape.Statement .huffAc0_B6 :=
  ⟨of_decide_eq_true rfl, of_decide_eq_true rfl, of_decide_eq_true rfl⟩

theorem Laws.WordShape.huffAc0_B7 : Laws.WordShape.Statement .huffAc0_B7 :=
  ⟨of_decide_eq_true rfl, of_decide_eq_true rfl, of_decide_eq_true rfl⟩

theorem Laws.WordShape.huffAc0_B8 : Laws.WordShape.Statement .huffAc0_B8 :=
  ⟨of_decide_eq_true rfl, of_decide_eq_true rfl, of_decide_eq_true rfl⟩

theorem Laws.WordShape.huffAc0_B9 : Laws.WordShape.Statement .huffAc0_B9 :=
  ⟨of_decide_eq_true rfl, of_decide_eq_true rfl, of_decide_eq_true rfl⟩

theorem Laws.WordShape.huffAc0_BA : Laws.WordShape.Statement .huffAc0_BA :=
  ⟨of_decide_eq_true rfl, of_decide_eq_true rfl, of_decide_eq_true rfl⟩

theorem Laws.WordShape.huffAc0_C2 : Laws.WordShape.Statement .huffAc0_C2 :=
  ⟨of_decide_eq_true rfl, of_decide_eq_true rfl, of_decide_eq_true rfl⟩

theorem Laws.WordShape.huffAc0_C3 : Laws.WordShape.Statement .huffAc0_C3 :=
  ⟨of_decide_eq_true rfl, of_decide_eq_true rfl, of_decide_eq_true rfl⟩

theorem Laws.WordShape.huffAc0_C4 : Laws.WordShape.Statement .huffAc0_C4 :=
  ⟨of_decide_eq_true rfl, of_decide_eq_true rfl, of_decide_eq_true rfl⟩

theorem Laws.WordShape.huffAc0_C5 : Laws.WordShape.Statement .huffAc0_C5 :=
  ⟨of_decide_eq_true rfl, of_decide_eq_true rfl, of_decide_eq_true rfl⟩

theorem Laws.WordShape.huffAc0_C6 : Laws.WordShape.Statement .huffAc0_C6 :=
  ⟨of_decide_eq_true rfl, of_decide_eq_true rfl, of_decide_eq_true rfl⟩

theorem Laws.WordShape.huffAc0_C7 : Laws.WordShape.Statement .huffAc0_C7 :=
  ⟨of_decide_eq_true rfl, of_decide_eq_true rfl, of_decide_eq_true rfl⟩

theorem Laws.WordShape.huffAc0_C8 : Laws.WordShape.Statement .huffAc0_C8 :=
  ⟨of_decide_eq_true rfl, of_decide_eq_true rfl, of_decide_eq_true rfl⟩

theorem Laws.WordShape.huffAc0_C9 : Laws.WordShape.Statement .huffAc0_C9 :=
  ⟨of_decide_eq_true rfl, of_decide_eq_true rfl, of_decide_eq_true rfl⟩

theorem Laws.WordShape.huffAc0_CA : Laws.WordShape.Statement .huffAc0_CA :=
  ⟨of_decide_eq_true rfl, of_decide_eq_true rfl, of_decide_eq_true rfl⟩

theorem Laws.WordShape.huffAc0_D2 : Laws.WordShape.Statement .huffAc0_D2 :=
  ⟨of_decide_eq_true rfl, of_decide_eq_true rfl, of_decide_eq_true rfl⟩

theorem Laws.WordShape.huffAc0_D3 : Laws.WordShape.Statement .huffAc0_D3 :=
  ⟨of_decide_eq_true rfl, of_decide_eq_true rfl, of_decide_eq_true rfl⟩

theorem Laws.WordShape.huffAc0_D4 : Laws.WordShape.Statement .huffAc0_D4 :=
  ⟨of_decide_eq_true rfl, of_decide_eq_true rfl, of_decide_eq_true rfl⟩

theorem Laws.WordShape.huffAc0_D5 : Laws.WordShape.Statement .huffAc0_D5 :=
  ⟨of_decide_eq_true rfl, of_decide_eq_true rfl, of_decide_eq_true rfl⟩

theorem Laws.WordShape.huffAc0_D6 : Laws.WordShape.Statement .huffAc0_D6 :=
  ⟨of_decide_eq_true rfl, of_decide_eq_true rfl, of_decide_eq_true rfl⟩

theorem Laws.WordShape.huffAc0_D7 : Laws.WordShape.Statement .huffAc0_D7 :=
  ⟨of_decide_eq_true rfl, of_decide_eq_true rfl, of_decide_eq_true rfl⟩

theorem Laws.WordShape.huffAc0_D8 : Laws.WordShape.Statement .huffAc0_D8 :=
  ⟨of_decide_eq_true rfl, of_decide_eq_true rfl, of_decide_eq_true rfl⟩

theorem Laws.WordShape.huffAc0_D9 : Laws.WordShape.Statement .huffAc0_D9 :=
  ⟨of_decide_eq_true rfl, of_decide_eq_true rfl, of_decide_eq_true rfl⟩

theorem Laws.WordShape.huffAc0_DA : Laws.WordShape.Statement .huffAc0_DA :=
  ⟨of_decide_eq_true rfl, of_decide_eq_true rfl, of_decide_eq_true rfl⟩

theorem Laws.WordShape.huffAc0_E1 : Laws.WordShape.Statement .huffAc0_E1 :=
  ⟨of_decide_eq_true rfl, of_decide_eq_true rfl, of_decide_eq_true rfl⟩

theorem Laws.WordShape.huffAc0_E2 : Laws.WordShape.Statement .huffAc0_E2 :=
  ⟨of_decide_eq_true rfl, of_decide_eq_true rfl, of_decide_eq_true rfl⟩

theorem Laws.WordShape.huffAc0_E3 : Laws.WordShape.Statement .huffAc0_E3 :=
  ⟨of_decide_eq_true rfl, of_decide_eq_true rfl, of_decide_eq_true rfl⟩

theorem Laws.WordShape.huffAc0_E4 : Laws.WordShape.Statement .huffAc0_E4 :=
  ⟨of_decide_eq_true rfl, of_decide_eq_true rfl, of_decide_eq_true rfl⟩

theorem Laws.WordShape.huffAc0_E5 : Laws.WordShape.Statement .huffAc0_E5 :=
  ⟨of_decide_eq_true rfl, of_decide_eq_true rfl, of_decide_eq_true rfl⟩

theorem Laws.WordShape.huffAc0_E6 : Laws.WordShape.Statement .huffAc0_E6 :=
  ⟨of_decide_eq_true rfl, of_decide_eq_true rfl, of_decide_eq_true rfl⟩

theorem Laws.WordShape.huffAc0_E7 : Laws.WordShape.Statement .huffAc0_E7 :=
  ⟨of_decide_eq_true rfl, of_decide_eq_true rfl, of_decide_eq_true rfl⟩

theorem Laws.WordShape.huffAc0_E8 : Laws.WordShape.Statement .huffAc0_E8 :=
  ⟨of_decide_eq_true rfl, of_decide_eq_true rfl, of_decide_eq_true rfl⟩

theorem Laws.WordShape.huffAc0_E9 : Laws.WordShape.Statement .huffAc0_E9 :=
  ⟨of_decide_eq_true rfl, of_decide_eq_true rfl, of_decide_eq_true rfl⟩

theorem Laws.WordShape.huffAc0_EA : Laws.WordShape.Statement .huffAc0_EA :=
  ⟨of_decide_eq_true rfl, of_decide_eq_true rfl, of_decide_eq_true rfl⟩

theorem Laws.WordShape.huffAc0_F1 : Laws.WordShape.Statement .huffAc0_F1 :=
  ⟨of_decide_eq_true rfl, of_decide_eq_true rfl, of_decide_eq_true rfl⟩

theorem Laws.WordShape.huffAc0_F2 : Laws.WordShape.Statement .huffAc0_F2 :=
  ⟨of_decide_eq_true rfl, of_decide_eq_true rfl, of_decide_eq_true rfl⟩

theorem Laws.WordShape.huffAc0_F3 : Laws.WordShape.Statement .huffAc0_F3 :=
  ⟨of_decide_eq_true rfl, of_decide_eq_true rfl, of_decide_eq_true rfl⟩

theorem Laws.WordShape.huffAc0_F4 : Laws.WordShape.Statement .huffAc0_F4 :=
  ⟨of_decide_eq_true rfl, of_decide_eq_true rfl, of_decide_eq_true rfl⟩

theorem Laws.WordShape.huffAc0_F5 : Laws.WordShape.Statement .huffAc0_F5 :=
  ⟨of_decide_eq_true rfl, of_decide_eq_true rfl, of_decide_eq_true rfl⟩

theorem Laws.WordShape.huffAc0_F6 : Laws.WordShape.Statement .huffAc0_F6 :=
  ⟨of_decide_eq_true rfl, of_decide_eq_true rfl, of_decide_eq_true rfl⟩

theorem Laws.WordShape.huffAc0_F7 : Laws.WordShape.Statement .huffAc0_F7 :=
  ⟨of_decide_eq_true rfl, of_decide_eq_true rfl, of_decide_eq_true rfl⟩

theorem Laws.WordShape.huffAc0_F8 : Laws.WordShape.Statement .huffAc0_F8 :=
  ⟨of_decide_eq_true rfl, of_decide_eq_true rfl, of_decide_eq_true rfl⟩

theorem Laws.WordShape.huffAc0_F9 : Laws.WordShape.Statement .huffAc0_F9 :=
  ⟨of_decide_eq_true rfl, of_decide_eq_true rfl, of_decide_eq_true rfl⟩

theorem Laws.WordShape.huffAc0_FA : Laws.WordShape.Statement .huffAc0_FA :=
  ⟨of_decide_eq_true rfl, of_decide_eq_true rfl, of_decide_eq_true rfl⟩

theorem Laws.WordShape.huffDc1_00 : Laws.WordShape.Statement .huffDc1_00 :=
  ⟨of_decide_eq_true rfl, of_decide_eq_true rfl, of_decide_eq_true rfl⟩

theorem Laws.WordShape.huffDc1_01 : Laws.WordShape.Statement .huffDc1_01 :=
  ⟨of_decide_eq_true rfl, of_decide_eq_true rfl, of_decide_eq_true rfl⟩

theorem Laws.WordShape.huffDc1_02 : Laws.WordShape.Statement .huffDc1_02 :=
  ⟨of_decide_eq_true rfl, of_decide_eq_true rfl, of_decide_eq_true rfl⟩

theorem Laws.WordShape.huffDc1_03 : Laws.WordShape.Statement .huffDc1_03 :=
  ⟨of_decide_eq_true rfl, of_decide_eq_true rfl, of_decide_eq_true rfl⟩

theorem Laws.WordShape.huffDc1_04 : Laws.WordShape.Statement .huffDc1_04 :=
  ⟨of_decide_eq_true rfl, of_decide_eq_true rfl, of_decide_eq_true rfl⟩

theorem Laws.WordShape.huffDc1_05 : Laws.WordShape.Statement .huffDc1_05 :=
  ⟨of_decide_eq_true rfl, of_decide_eq_true rfl, of_decide_eq_true rfl⟩

theorem Laws.WordShape.huffDc1_06 : Laws.WordShape.Statement .huffDc1_06 :=
  ⟨of_decide_eq_true rfl, of_decide_eq_true rfl, of_decide_eq_true rfl⟩

theorem Laws.WordShape.huffDc1_07 : Laws.WordShape.Statement .huffDc1_07 :=
  ⟨of_decide_eq_true rfl, of_decide_eq_true rfl, of_decide_eq_true rfl⟩

theorem Laws.WordShape.huffDc1_08 : Laws.WordShape.Statement .huffDc1_08 :=
  ⟨of_decide_eq_true rfl, of_decide_eq_true rfl, of_decide_eq_true rfl⟩

theorem Laws.WordShape.huffDc1_09 : Laws.WordShape.Statement .huffDc1_09 :=
  ⟨of_decide_eq_true rfl, of_decide_eq_true rfl, of_decide_eq_true rfl⟩

theorem Laws.WordShape.huffDc1_0A : Laws.WordShape.Statement .huffDc1_0A :=
  ⟨of_decide_eq_true rfl, of_decide_eq_true rfl, of_decide_eq_true rfl⟩

theorem Laws.WordShape.huffDc1_0B : Laws.WordShape.Statement .huffDc1_0B :=
  ⟨of_decide_eq_true rfl, of_decide_eq_true rfl, of_decide_eq_true rfl⟩

theorem Laws.WordShape.huffAc1_00 : Laws.WordShape.Statement .huffAc1_00 :=
  ⟨of_decide_eq_true rfl, of_decide_eq_true rfl, of_decide_eq_true rfl⟩

theorem Laws.WordShape.huffAc1_01 : Laws.WordShape.Statement .huffAc1_01 :=
  ⟨of_decide_eq_true rfl, of_decide_eq_true rfl, of_decide_eq_true rfl⟩

theorem Laws.WordShape.huffAc1_02 : Laws.WordShape.Statement .huffAc1_02 :=
  ⟨of_decide_eq_true rfl, of_decide_eq_true rfl, of_decide_eq_true rfl⟩

theorem Laws.WordShape.huffAc1_03 : Laws.WordShape.Statement .huffAc1_03 :=
  ⟨of_decide_eq_true rfl, of_decide_eq_true rfl, of_decide_eq_true rfl⟩

theorem Laws.WordShape.huffAc1_11 : Laws.WordShape.Statement .huffAc1_11 :=
  ⟨of_decide_eq_true rfl, of_decide_eq_true rfl, of_decide_eq_true rfl⟩

theorem Laws.WordShape.huffAc1_04 : Laws.WordShape.Statement .huffAc1_04 :=
  ⟨of_decide_eq_true rfl, of_decide_eq_true rfl, of_decide_eq_true rfl⟩

theorem Laws.WordShape.huffAc1_05 : Laws.WordShape.Statement .huffAc1_05 :=
  ⟨of_decide_eq_true rfl, of_decide_eq_true rfl, of_decide_eq_true rfl⟩

theorem Laws.WordShape.huffAc1_21 : Laws.WordShape.Statement .huffAc1_21 :=
  ⟨of_decide_eq_true rfl, of_decide_eq_true rfl, of_decide_eq_true rfl⟩

theorem Laws.WordShape.huffAc1_31 : Laws.WordShape.Statement .huffAc1_31 :=
  ⟨of_decide_eq_true rfl, of_decide_eq_true rfl, of_decide_eq_true rfl⟩

theorem Laws.WordShape.huffAc1_06 : Laws.WordShape.Statement .huffAc1_06 :=
  ⟨of_decide_eq_true rfl, of_decide_eq_true rfl, of_decide_eq_true rfl⟩

theorem Laws.WordShape.huffAc1_12 : Laws.WordShape.Statement .huffAc1_12 :=
  ⟨of_decide_eq_true rfl, of_decide_eq_true rfl, of_decide_eq_true rfl⟩

theorem Laws.WordShape.huffAc1_41 : Laws.WordShape.Statement .huffAc1_41 :=
  ⟨of_decide_eq_true rfl, of_decide_eq_true rfl, of_decide_eq_true rfl⟩

theorem Laws.WordShape.huffAc1_51 : Laws.WordShape.Statement .huffAc1_51 :=
  ⟨of_decide_eq_true rfl, of_decide_eq_true rfl, of_decide_eq_true rfl⟩

theorem Laws.WordShape.huffAc1_07 : Laws.WordShape.Statement .huffAc1_07 :=
  ⟨of_decide_eq_true rfl, of_decide_eq_true rfl, of_decide_eq_true rfl⟩

theorem Laws.WordShape.huffAc1_61 : Laws.WordShape.Statement .huffAc1_61 :=
  ⟨of_decide_eq_true rfl, of_decide_eq_true rfl, of_decide_eq_true rfl⟩

theorem Laws.WordShape.huffAc1_71 : Laws.WordShape.Statement .huffAc1_71 :=
  ⟨of_decide_eq_true rfl, of_decide_eq_true rfl, of_decide_eq_true rfl⟩

theorem Laws.WordShape.huffAc1_13 : Laws.WordShape.Statement .huffAc1_13 :=
  ⟨of_decide_eq_true rfl, of_decide_eq_true rfl, of_decide_eq_true rfl⟩

theorem Laws.WordShape.huffAc1_22 : Laws.WordShape.Statement .huffAc1_22 :=
  ⟨of_decide_eq_true rfl, of_decide_eq_true rfl, of_decide_eq_true rfl⟩

theorem Laws.WordShape.huffAc1_32 : Laws.WordShape.Statement .huffAc1_32 :=
  ⟨of_decide_eq_true rfl, of_decide_eq_true rfl, of_decide_eq_true rfl⟩

theorem Laws.WordShape.huffAc1_81 : Laws.WordShape.Statement .huffAc1_81 :=
  ⟨of_decide_eq_true rfl, of_decide_eq_true rfl, of_decide_eq_true rfl⟩

theorem Laws.WordShape.huffAc1_08 : Laws.WordShape.Statement .huffAc1_08 :=
  ⟨of_decide_eq_true rfl, of_decide_eq_true rfl, of_decide_eq_true rfl⟩

theorem Laws.WordShape.huffAc1_14 : Laws.WordShape.Statement .huffAc1_14 :=
  ⟨of_decide_eq_true rfl, of_decide_eq_true rfl, of_decide_eq_true rfl⟩

theorem Laws.WordShape.huffAc1_42 : Laws.WordShape.Statement .huffAc1_42 :=
  ⟨of_decide_eq_true rfl, of_decide_eq_true rfl, of_decide_eq_true rfl⟩

theorem Laws.WordShape.huffAc1_91 : Laws.WordShape.Statement .huffAc1_91 :=
  ⟨of_decide_eq_true rfl, of_decide_eq_true rfl, of_decide_eq_true rfl⟩

theorem Laws.WordShape.huffAc1_A1 : Laws.WordShape.Statement .huffAc1_A1 :=
  ⟨of_decide_eq_true rfl, of_decide_eq_true rfl, of_decide_eq_true rfl⟩

theorem Laws.WordShape.huffAc1_B1 : Laws.WordShape.Statement .huffAc1_B1 :=
  ⟨of_decide_eq_true rfl, of_decide_eq_true rfl, of_decide_eq_true rfl⟩

theorem Laws.WordShape.huffAc1_C1 : Laws.WordShape.Statement .huffAc1_C1 :=
  ⟨of_decide_eq_true rfl, of_decide_eq_true rfl, of_decide_eq_true rfl⟩

theorem Laws.WordShape.huffAc1_09 : Laws.WordShape.Statement .huffAc1_09 :=
  ⟨of_decide_eq_true rfl, of_decide_eq_true rfl, of_decide_eq_true rfl⟩

theorem Laws.WordShape.huffAc1_23 : Laws.WordShape.Statement .huffAc1_23 :=
  ⟨of_decide_eq_true rfl, of_decide_eq_true rfl, of_decide_eq_true rfl⟩

theorem Laws.WordShape.huffAc1_33 : Laws.WordShape.Statement .huffAc1_33 :=
  ⟨of_decide_eq_true rfl, of_decide_eq_true rfl, of_decide_eq_true rfl⟩

theorem Laws.WordShape.huffAc1_52 : Laws.WordShape.Statement .huffAc1_52 :=
  ⟨of_decide_eq_true rfl, of_decide_eq_true rfl, of_decide_eq_true rfl⟩

theorem Laws.WordShape.huffAc1_F0 : Laws.WordShape.Statement .huffAc1_F0 :=
  ⟨of_decide_eq_true rfl, of_decide_eq_true rfl, of_decide_eq_true rfl⟩

theorem Laws.WordShape.huffAc1_15 : Laws.WordShape.Statement .huffAc1_15 :=
  ⟨of_decide_eq_true rfl, of_decide_eq_true rfl, of_decide_eq_true rfl⟩

theorem Laws.WordShape.huffAc1_62 : Laws.WordShape.Statement .huffAc1_62 :=
  ⟨of_decide_eq_true rfl, of_decide_eq_true rfl, of_decide_eq_true rfl⟩

theorem Laws.WordShape.huffAc1_72 : Laws.WordShape.Statement .huffAc1_72 :=
  ⟨of_decide_eq_true rfl, of_decide_eq_true rfl, of_decide_eq_true rfl⟩

theorem Laws.WordShape.huffAc1_D1 : Laws.WordShape.Statement .huffAc1_D1 :=
  ⟨of_decide_eq_true rfl, of_decide_eq_true rfl, of_decide_eq_true rfl⟩

theorem Laws.WordShape.huffAc1_0A : Laws.WordShape.Statement .huffAc1_0A :=
  ⟨of_decide_eq_true rfl, of_decide_eq_true rfl, of_decide_eq_true rfl⟩

theorem Laws.WordShape.huffAc1_16 : Laws.WordShape.Statement .huffAc1_16 :=
  ⟨of_decide_eq_true rfl, of_decide_eq_true rfl, of_decide_eq_true rfl⟩

theorem Laws.WordShape.huffAc1_24 : Laws.WordShape.Statement .huffAc1_24 :=
  ⟨of_decide_eq_true rfl, of_decide_eq_true rfl, of_decide_eq_true rfl⟩

theorem Laws.WordShape.huffAc1_34 : Laws.WordShape.Statement .huffAc1_34 :=
  ⟨of_decide_eq_true rfl, of_decide_eq_true rfl, of_decide_eq_true rfl⟩

theorem Laws.WordShape.huffAc1_E1 : Laws.WordShape.Statement .huffAc1_E1 :=
  ⟨of_decide_eq_true rfl, of_decide_eq_true rfl, of_decide_eq_true rfl⟩

theorem Laws.WordShape.huffAc1_25 : Laws.WordShape.Statement .huffAc1_25 :=
  ⟨of_decide_eq_true rfl, of_decide_eq_true rfl, of_decide_eq_true rfl⟩

theorem Laws.WordShape.huffAc1_F1 : Laws.WordShape.Statement .huffAc1_F1 :=
  ⟨of_decide_eq_true rfl, of_decide_eq_true rfl, of_decide_eq_true rfl⟩

theorem Laws.WordShape.huffAc1_17 : Laws.WordShape.Statement .huffAc1_17 :=
  ⟨of_decide_eq_true rfl, of_decide_eq_true rfl, of_decide_eq_true rfl⟩

theorem Laws.WordShape.huffAc1_18 : Laws.WordShape.Statement .huffAc1_18 :=
  ⟨of_decide_eq_true rfl, of_decide_eq_true rfl, of_decide_eq_true rfl⟩

theorem Laws.WordShape.huffAc1_19 : Laws.WordShape.Statement .huffAc1_19 :=
  ⟨of_decide_eq_true rfl, of_decide_eq_true rfl, of_decide_eq_true rfl⟩

theorem Laws.WordShape.huffAc1_1A : Laws.WordShape.Statement .huffAc1_1A :=
  ⟨of_decide_eq_true rfl, of_decide_eq_true rfl, of_decide_eq_true rfl⟩

theorem Laws.WordShape.huffAc1_26 : Laws.WordShape.Statement .huffAc1_26 :=
  ⟨of_decide_eq_true rfl, of_decide_eq_true rfl, of_decide_eq_true rfl⟩

theorem Laws.WordShape.huffAc1_27 : Laws.WordShape.Statement .huffAc1_27 :=
  ⟨of_decide_eq_true rfl, of_decide_eq_true rfl, of_decide_eq_true rfl⟩

theorem Laws.WordShape.huffAc1_28 : Laws.WordShape.Statement .huffAc1_28 :=
  ⟨of_decide_eq_true rfl, of_decide_eq_true rfl, of_decide_eq_true rfl⟩

theorem Laws.WordShape.huffAc1_29 : Laws.WordShape.Statement .huffAc1_29 :=
  ⟨of_decide_eq_true rfl, of_decide_eq_true rfl, of_decide_eq_true rfl⟩

theorem Laws.WordShape.huffAc1_2A : Laws.WordShape.Statement .huffAc1_2A :=
  ⟨of_decide_eq_true rfl, of_decide_eq_true rfl, of_decide_eq_true rfl⟩

theorem Laws.WordShape.huffAc1_35 : Laws.WordShape.Statement .huffAc1_35 :=
  ⟨of_decide_eq_true rfl, of_decide_eq_true rfl, of_decide_eq_true rfl⟩

theorem Laws.WordShape.huffAc1_36 : Laws.WordShape.Statement .huffAc1_36 :=
  ⟨of_decide_eq_true rfl, of_decide_eq_true rfl, of_decide_eq_true rfl⟩

theorem Laws.WordShape.huffAc1_37 : Laws.WordShape.Statement .huffAc1_37 :=
  ⟨of_decide_eq_true rfl, of_decide_eq_true rfl, of_decide_eq_true rfl⟩

theorem Laws.WordShape.huffAc1_38 : Laws.WordShape.Statement .huffAc1_38 :=
  ⟨of_decide_eq_true rfl, of_decide_eq_true rfl, of_decide_eq_true rfl⟩

theorem Laws.WordShape.huffAc1_39 : Laws.WordShape.Statement .huffAc1_39 :=
  ⟨of_decide_eq_true rfl, of_decide_eq_true rfl, of_decide_eq_true rfl⟩

theorem Laws.WordShape.huffAc1_3A : Laws.WordShape.Statement .huffAc1_3A :=
  ⟨of_decide_eq_true rfl, of_decide_eq_true rfl, of_decide_eq_true rfl⟩

theorem Laws.WordShape.huffAc1_43 : Laws.WordShape.Statement .huffAc1_43 :=
  ⟨of_decide_eq_true rfl, of_decide_eq_true rfl, of_decide_eq_true rfl⟩

theorem Laws.WordShape.huffAc1_44 : Laws.WordShape.Statement .huffAc1_44 :=
  ⟨of_decide_eq_true rfl, of_decide_eq_true rfl, of_decide_eq_true rfl⟩

theorem Laws.WordShape.huffAc1_45 : Laws.WordShape.Statement .huffAc1_45 :=
  ⟨of_decide_eq_true rfl, of_decide_eq_true rfl, of_decide_eq_true rfl⟩

theorem Laws.WordShape.huffAc1_46 : Laws.WordShape.Statement .huffAc1_46 :=
  ⟨of_decide_eq_true rfl, of_decide_eq_true rfl, of_decide_eq_true rfl⟩

theorem Laws.WordShape.huffAc1_47 : Laws.WordShape.Statement .huffAc1_47 :=
  ⟨of_decide_eq_true rfl, of_decide_eq_true rfl, of_decide_eq_true rfl⟩

theorem Laws.WordShape.huffAc1_48 : Laws.WordShape.Statement .huffAc1_48 :=
  ⟨of_decide_eq_true rfl, of_decide_eq_true rfl, of_decide_eq_true rfl⟩

theorem Laws.WordShape.huffAc1_49 : Laws.WordShape.Statement .huffAc1_49 :=
  ⟨of_decide_eq_true rfl, of_decide_eq_true rfl, of_decide_eq_true rfl⟩

theorem Laws.WordShape.huffAc1_4A : Laws.WordShape.Statement .huffAc1_4A :=
  ⟨of_decide_eq_true rfl, of_decide_eq_true rfl, of_decide_eq_true rfl⟩

theorem Laws.WordShape.huffAc1_53 : Laws.WordShape.Statement .huffAc1_53 :=
  ⟨of_decide_eq_true rfl, of_decide_eq_true rfl, of_decide_eq_true rfl⟩

theorem Laws.WordShape.huffAc1_54 : Laws.WordShape.Statement .huffAc1_54 :=
  ⟨of_decide_eq_true rfl, of_decide_eq_true rfl, of_decide_eq_true rfl⟩

theorem Laws.WordShape.huffAc1_55 : Laws.WordShape.Statement .huffAc1_55 :=
  ⟨of_decide_eq_true rfl, of_decide_eq_true rfl, of_decide_eq_true rfl⟩

theorem Laws.WordShape.huffAc1_56 : Laws.WordShape.Statement .huffAc1_56 :=
  ⟨of_decide_eq_true rfl, of_decide_eq_true rfl, of_decide_eq_true rfl⟩

theorem Laws.WordShape.huffAc1_57 : Laws.WordShape.Statement .huffAc1_57 :=
  ⟨of_decide_eq_true rfl, of_decide_eq_true rfl, of_decide_eq_true rfl⟩

theorem Laws.WordShape.huffAc1_58 : Laws.WordShape.Statement .huffAc1_58 :=
  ⟨of_decide_eq_true rfl, of_decide_eq_true rfl, of_decide_eq_true rfl⟩

theorem Laws.WordShape.huffAc1_59 : Laws.WordShape.Statement .huffAc1_59 :=
  ⟨of_decide_eq_true rfl, of_decide_eq_true rfl, of_decide_eq_true rfl⟩

theorem Laws.WordShape.huffAc1_5A : Laws.WordShape.Statement .huffAc1_5A :=
  ⟨of_decide_eq_true rfl, of_decide_eq_true rfl, of_decide_eq_true rfl⟩

theorem Laws.WordShape.huffAc1_63 : Laws.WordShape.Statement .huffAc1_63 :=
  ⟨of_decide_eq_true rfl, of_decide_eq_true rfl, of_decide_eq_true rfl⟩

theorem Laws.WordShape.huffAc1_64 : Laws.WordShape.Statement .huffAc1_64 :=
  ⟨of_decide_eq_true rfl, of_decide_eq_true rfl, of_decide_eq_true rfl⟩

theorem Laws.WordShape.huffAc1_65 : Laws.WordShape.Statement .huffAc1_65 :=
  ⟨of_decide_eq_true rfl, of_decide_eq_true rfl, of_decide_eq_true rfl⟩

theorem Laws.WordShape.huffAc1_66 : Laws.WordShape.Statement .huffAc1_66 :=
  ⟨of_decide_eq_true rfl, of_decide_eq_true rfl, of_decide_eq_true rfl⟩

theorem Laws.WordShape.huffAc1_67 : Laws.WordShape.Statement .huffAc1_67 :=
  ⟨of_decide_eq_true rfl, of_decide_eq_true rfl, of_decide_eq_true rfl⟩

theorem Laws.WordShape.huffAc1_68 : Laws.WordShape.Statement .huffAc1_68 :=
  ⟨of_decide_eq_true rfl, of_decide_eq_true rfl, of_decide_eq_true rfl⟩

theorem Laws.WordShape.huffAc1_69 : Laws.WordShape.Statement .huffAc1_69 :=
  ⟨of_decide_eq_true rfl, of_decide_eq_true rfl, of_decide_eq_true rfl⟩

theorem Laws.WordShape.huffAc1_6A : Laws.WordShape.Statement .huffAc1_6A :=
  ⟨of_decide_eq_true rfl, of_decide_eq_true rfl, of_decide_eq_true rfl⟩

theorem Laws.WordShape.huffAc1_73 : Laws.WordShape.Statement .huffAc1_73 :=
  ⟨of_decide_eq_true rfl, of_decide_eq_true rfl, of_decide_eq_true rfl⟩

theorem Laws.WordShape.huffAc1_74 : Laws.WordShape.Statement .huffAc1_74 :=
  ⟨of_decide_eq_true rfl, of_decide_eq_true rfl, of_decide_eq_true rfl⟩

theorem Laws.WordShape.huffAc1_75 : Laws.WordShape.Statement .huffAc1_75 :=
  ⟨of_decide_eq_true rfl, of_decide_eq_true rfl, of_decide_eq_true rfl⟩

theorem Laws.WordShape.huffAc1_76 : Laws.WordShape.Statement .huffAc1_76 :=
  ⟨of_decide_eq_true rfl, of_decide_eq_true rfl, of_decide_eq_true rfl⟩

theorem Laws.WordShape.huffAc1_77 : Laws.WordShape.Statement .huffAc1_77 :=
  ⟨of_decide_eq_true rfl, of_decide_eq_true rfl, of_decide_eq_true rfl⟩

theorem Laws.WordShape.huffAc1_78 : Laws.WordShape.Statement .huffAc1_78 :=
  ⟨of_decide_eq_true rfl, of_decide_eq_true rfl, of_decide_eq_true rfl⟩

theorem Laws.WordShape.huffAc1_79 : Laws.WordShape.Statement .huffAc1_79 :=
  ⟨of_decide_eq_true rfl, of_decide_eq_true rfl, of_decide_eq_true rfl⟩

theorem Laws.WordShape.huffAc1_7A : Laws.WordShape.Statement .huffAc1_7A :=
  ⟨of_decide_eq_true rfl, of_decide_eq_true rfl, of_decide_eq_true rfl⟩

theorem Laws.WordShape.huffAc1_82 : Laws.WordShape.Statement .huffAc1_82 :=
  ⟨of_decide_eq_true rfl, of_decide_eq_true rfl, of_decide_eq_true rfl⟩

theorem Laws.WordShape.huffAc1_83 : Laws.WordShape.Statement .huffAc1_83 :=
  ⟨of_decide_eq_true rfl, of_decide_eq_true rfl, of_decide_eq_true rfl⟩

theorem Laws.WordShape.huffAc1_84 : Laws.WordShape.Statement .huffAc1_84 :=
  ⟨of_decide_eq_true rfl, of_decide_eq_true rfl, of_decide_eq_true rfl⟩

theorem Laws.WordShape.huffAc1_85 : Laws.WordShape.Statement .huffAc1_85 :=
  ⟨of_decide_eq_true rfl, of_decide_eq_true rfl, of_decide_eq_true rfl⟩

theorem Laws.WordShape.huffAc1_86 : Laws.WordShape.Statement .huffAc1_86 :=
  ⟨of_decide_eq_true rfl, of_decide_eq_true rfl, of_decide_eq_true rfl⟩

theorem Laws.WordShape.huffAc1_87 : Laws.WordShape.Statement .huffAc1_87 :=
  ⟨of_decide_eq_true rfl, of_decide_eq_true rfl, of_decide_eq_true rfl⟩

theorem Laws.WordShape.huffAc1_88 : Laws.WordShape.Statement .huffAc1_88 :=
  ⟨of_decide_eq_true rfl, of_decide_eq_true rfl, of_decide_eq_true rfl⟩

theorem Laws.WordShape.huffAc1_89 : Laws.WordShape.Statement .huffAc1_89 :=
  ⟨of_decide_eq_true rfl, of_decide_eq_true rfl, of_decide_eq_true rfl⟩

theorem Laws.WordShape.huffAc1_8A : Laws.WordShape.Statement .huffAc1_8A :=
  ⟨of_decide_eq_true rfl, of_decide_eq_true rfl, of_decide_eq_true rfl⟩

theorem Laws.WordShape.huffAc1_92 : Laws.WordShape.Statement .huffAc1_92 :=
  ⟨of_decide_eq_true rfl, of_decide_eq_true rfl, of_decide_eq_true rfl⟩

theorem Laws.WordShape.huffAc1_93 : Laws.WordShape.Statement .huffAc1_93 :=
  ⟨of_decide_eq_true rfl, of_decide_eq_true rfl, of_decide_eq_true rfl⟩

theorem Laws.WordShape.huffAc1_94 : Laws.WordShape.Statement .huffAc1_94 :=
  ⟨of_decide_eq_true rfl, of_decide_eq_true rfl, of_decide_eq_true rfl⟩

theorem Laws.WordShape.huffAc1_95 : Laws.WordShape.Statement .huffAc1_95 :=
  ⟨of_decide_eq_true rfl, of_decide_eq_true rfl, of_decide_eq_true rfl⟩

theorem Laws.WordShape.huffAc1_96 : Laws.WordShape.Statement .huffAc1_96 :=
  ⟨of_decide_eq_true rfl, of_decide_eq_true rfl, of_decide_eq_true rfl⟩

theorem Laws.WordShape.huffAc1_97 : Laws.WordShape.Statement .huffAc1_97 :=
  ⟨of_decide_eq_true rfl, of_decide_eq_true rfl, of_decide_eq_true rfl⟩

theorem Laws.WordShape.huffAc1_98 : Laws.WordShape.Statement .huffAc1_98 :=
  ⟨of_decide_eq_true rfl, of_decide_eq_true rfl, of_decide_eq_true rfl⟩

theorem Laws.WordShape.huffAc1_99 : Laws.WordShape.Statement .huffAc1_99 :=
  ⟨of_decide_eq_true rfl, of_decide_eq_true rfl, of_decide_eq_true rfl⟩

theorem Laws.WordShape.huffAc1_9A : Laws.WordShape.Statement .huffAc1_9A :=
  ⟨of_decide_eq_true rfl, of_decide_eq_true rfl, of_decide_eq_true rfl⟩

theorem Laws.WordShape.huffAc1_A2 : Laws.WordShape.Statement .huffAc1_A2 :=
  ⟨of_decide_eq_true rfl, of_decide_eq_true rfl, of_decide_eq_true rfl⟩

theorem Laws.WordShape.huffAc1_A3 : Laws.WordShape.Statement .huffAc1_A3 :=
  ⟨of_decide_eq_true rfl, of_decide_eq_true rfl, of_decide_eq_true rfl⟩

theorem Laws.WordShape.huffAc1_A4 : Laws.WordShape.Statement .huffAc1_A4 :=
  ⟨of_decide_eq_true rfl, of_decide_eq_true rfl, of_decide_eq_true rfl⟩

theorem Laws.WordShape.huffAc1_A5 : Laws.WordShape.Statement .huffAc1_A5 :=
  ⟨of_decide_eq_true rfl, of_decide_eq_true rfl, of_decide_eq_true rfl⟩

theorem Laws.WordShape.huffAc1_A6 : Laws.WordShape.Statement .huffAc1_A6 :=
  ⟨of_decide_eq_true rfl, of_decide_eq_true rfl, of_decide_eq_true rfl⟩

theorem Laws.WordShape.huffAc1_A7 : Laws.WordShape.Statement .huffAc1_A7 :=
  ⟨of_decide_eq_true rfl, of_decide_eq_true rfl, of_decide_eq_true rfl⟩

theorem Laws.WordShape.huffAc1_A8 : Laws.WordShape.Statement .huffAc1_A8 :=
  ⟨of_decide_eq_true rfl, of_decide_eq_true rfl, of_decide_eq_true rfl⟩

theorem Laws.WordShape.huffAc1_A9 : Laws.WordShape.Statement .huffAc1_A9 :=
  ⟨of_decide_eq_true rfl, of_decide_eq_true rfl, of_decide_eq_true rfl⟩

theorem Laws.WordShape.huffAc1_AA : Laws.WordShape.Statement .huffAc1_AA :=
  ⟨of_decide_eq_true rfl, of_decide_eq_true rfl, of_decide_eq_true rfl⟩

theorem Laws.WordShape.huffAc1_B2 : Laws.WordShape.Statement .huffAc1_B2 :=
  ⟨of_decide_eq_true rfl, of_decide_eq_true rfl, of_decide_eq_true rfl⟩

theorem Laws.WordShape.huffAc1_B3 : Laws.WordShape.Statement .huffAc1_B3 :=
  ⟨of_decide_eq_true rfl, of_decide_eq_true rfl, of_decide_eq_true rfl⟩

theorem Laws.WordShape.huffAc1_B4 : Laws.WordShape.Statement .huffAc1_B4 :=
  ⟨of_decide_eq_true rfl, of_decide_eq_true rfl, of_decide_eq_true rfl⟩

theorem Laws.WordShape.huffAc1_B5 : Laws.WordShape.Statement .huffAc1_B5 :=
  ⟨of_decide_eq_true rfl, of_decide_eq_true rfl, of_decide_eq_true rfl⟩

theorem Laws.WordShape.huffAc1_B6 : Laws.WordShape.Statement .huffAc1_B6 :=
  ⟨of_decide_eq_true rfl, of_decide_eq_true rfl, of_decide_eq_true rfl⟩

theorem Laws.WordShape.huffAc1_B7 : Laws.WordShape.Statement .huffAc1_B7 :=
  ⟨of_decide_eq_true rfl, of_decide_eq_true rfl, of_decide_eq_true rfl⟩

theorem Laws.WordShape.huffAc1_B8 : Laws.WordShape.Statement .huffAc1_B8 :=
  ⟨of_decide_eq_true rfl, of_decide_eq_true rfl, of_decide_eq_true rfl⟩

theorem Laws.WordShape.huffAc1_B9 : Laws.WordShape.Statement .huffAc1_B9 :=
  ⟨of_decide_eq_true rfl, of_decide_eq_true rfl, of_decide_eq_true rfl⟩

theorem Laws.WordShape.huffAc1_BA : Laws.WordShape.Statement .huffAc1_BA :=
  ⟨of_decide_eq_true rfl, of_decide_eq_true rfl, of_decide_eq_true rfl⟩

theorem Laws.WordShape.huffAc1_C2 : Laws.WordShape.Statement .huffAc1_C2 :=
  ⟨of_decide_eq_true rfl, of_decide_eq_true rfl, of_decide_eq_true rfl⟩

theorem Laws.WordShape.huffAc1_C3 : Laws.WordShape.Statement .huffAc1_C3 :=
  ⟨of_decide_eq_true rfl, of_decide_eq_true rfl, of_decide_eq_true rfl⟩

theorem Laws.WordShape.huffAc1_C4 : Laws.WordShape.Statement .huffAc1_C4 :=
  ⟨of_decide_eq_true rfl, of_decide_eq_true rfl, of_decide_eq_true rfl⟩

theorem Laws.WordShape.huffAc1_C5 : Laws.WordShape.Statement .huffAc1_C5 :=
  ⟨of_decide_eq_true rfl, of_decide_eq_true rfl, of_decide_eq_true rfl⟩

theorem Laws.WordShape.huffAc1_C6 : Laws.WordShape.Statement .huffAc1_C6 :=
  ⟨of_decide_eq_true rfl, of_decide_eq_true rfl, of_decide_eq_true rfl⟩

theorem Laws.WordShape.huffAc1_C7 : Laws.WordShape.Statement .huffAc1_C7 :=
  ⟨of_decide_eq_true rfl, of_decide_eq_true rfl, of_decide_eq_true rfl⟩

theorem Laws.WordShape.huffAc1_C8 : Laws.WordShape.Statement .huffAc1_C8 :=
  ⟨of_decide_eq_true rfl, of_decide_eq_true rfl, of_decide_eq_true rfl⟩

theorem Laws.WordShape.huffAc1_C9 : Laws.WordShape.Statement .huffAc1_C9 :=
  ⟨of_decide_eq_true rfl, of_decide_eq_true rfl, of_decide_eq_true rfl⟩

theorem Laws.WordShape.huffAc1_CA : Laws.WordShape.Statement .huffAc1_CA :=
  ⟨of_decide_eq_true rfl, of_decide_eq_true rfl, of_decide_eq_true rfl⟩

theorem Laws.WordShape.huffAc1_D2 : Laws.WordShape.Statement .huffAc1_D2 :=
  ⟨of_decide_eq_true rfl, of_decide_eq_true rfl, of_decide_eq_true rfl⟩

theorem Laws.WordShape.huffAc1_D3 : Laws.WordShape.Statement .huffAc1_D3 :=
  ⟨of_decide_eq_true rfl, of_decide_eq_true rfl, of_decide_eq_true rfl⟩

theorem Laws.WordShape.huffAc1_D4 : Laws.WordShape.Statement .huffAc1_D4 :=
  ⟨of_decide_eq_true rfl, of_decide_eq_true rfl, of_decide_eq_true rfl⟩

theorem Laws.WordShape.huffAc1_D5 : Laws.WordShape.Statement .huffAc1_D5 :=
  ⟨of_decide_eq_true rfl, of_decide_eq_true rfl, of_decide_eq_true rfl⟩

theorem Laws.WordShape.huffAc1_D6 : Laws.WordShape.Statement .huffAc1_D6 :=
  ⟨of_decide_eq_true rfl, of_decide_eq_true rfl, of_decide_eq_true rfl⟩

theorem Laws.WordShape.huffAc1_D7 : Laws.WordShape.Statement .huffAc1_D7 :=
  ⟨of_decide_eq_true rfl, of_decide_eq_true rfl, of_decide_eq_true rfl⟩

theorem Laws.WordShape.huffAc1_D8 : Laws.WordShape.Statement .huffAc1_D8 :=
  ⟨of_decide_eq_true rfl, of_decide_eq_true rfl, of_decide_eq_true rfl⟩

theorem Laws.WordShape.huffAc1_D9 : Laws.WordShape.Statement .huffAc1_D9 :=
  ⟨of_decide_eq_true rfl, of_decide_eq_true rfl, of_decide_eq_true rfl⟩

theorem Laws.WordShape.huffAc1_DA : Laws.WordShape.Statement .huffAc1_DA :=
  ⟨of_decide_eq_true rfl, of_decide_eq_true rfl, of_decide_eq_true rfl⟩

theorem Laws.WordShape.huffAc1_E2 : Laws.WordShape.Statement .huffAc1_E2 :=
  ⟨of_decide_eq_true rfl, of_decide_eq_true rfl, of_decide_eq_true rfl⟩

theorem Laws.WordShape.huffAc1_E3 : Laws.WordShape.Statement .huffAc1_E3 :=
  ⟨of_decide_eq_true rfl, of_decide_eq_true rfl, of_decide_eq_true rfl⟩

theorem Laws.WordShape.huffAc1_E4 : Laws.WordShape.Statement .huffAc1_E4 :=
  ⟨of_decide_eq_true rfl, of_decide_eq_true rfl, of_decide_eq_true rfl⟩

theorem Laws.WordShape.huffAc1_E5 : Laws.WordShape.Statement .huffAc1_E5 :=
  ⟨of_decide_eq_true rfl, of_decide_eq_true rfl, of_decide_eq_true rfl⟩

theorem Laws.WordShape.huffAc1_E6 : Laws.WordShape.Statement .huffAc1_E6 :=
  ⟨of_decide_eq_true rfl, of_decide_eq_true rfl, of_decide_eq_true rfl⟩

theorem Laws.WordShape.huffAc1_E7 : Laws.WordShape.Statement .huffAc1_E7 :=
  ⟨of_decide_eq_true rfl, of_decide_eq_true rfl, of_decide_eq_true rfl⟩

theorem Laws.WordShape.huffAc1_E8 : Laws.WordShape.Statement .huffAc1_E8 :=
  ⟨of_decide_eq_true rfl, of_decide_eq_true rfl, of_decide_eq_true rfl⟩

theorem Laws.WordShape.huffAc1_E9 : Laws.WordShape.Statement .huffAc1_E9 :=
  ⟨of_decide_eq_true rfl, of_decide_eq_true rfl, of_decide_eq_true rfl⟩

theorem Laws.WordShape.huffAc1_EA : Laws.WordShape.Statement .huffAc1_EA :=
  ⟨of_decide_eq_true rfl, of_decide_eq_true rfl, of_decide_eq_true rfl⟩

theorem Laws.WordShape.huffAc1_F2 : Laws.WordShape.Statement .huffAc1_F2 :=
  ⟨of_decide_eq_true rfl, of_decide_eq_true rfl, of_decide_eq_true rfl⟩

theorem Laws.WordShape.huffAc1_F3 : Laws.WordShape.Statement .huffAc1_F3 :=
  ⟨of_decide_eq_true rfl, of_decide_eq_true rfl, of_decide_eq_true rfl⟩

theorem Laws.WordShape.huffAc1_F4 : Laws.WordShape.Statement .huffAc1_F4 :=
  ⟨of_decide_eq_true rfl, of_decide_eq_true rfl, of_decide_eq_true rfl⟩

theorem Laws.WordShape.huffAc1_F5 : Laws.WordShape.Statement .huffAc1_F5 :=
  ⟨of_decide_eq_true rfl, of_decide_eq_true rfl, of_decide_eq_true rfl⟩

theorem Laws.WordShape.huffAc1_F6 : Laws.WordShape.Statement .huffAc1_F6 :=
  ⟨of_decide_eq_true rfl, of_decide_eq_true rfl, of_decide_eq_true rfl⟩

theorem Laws.WordShape.huffAc1_F7 : Laws.WordShape.Statement .huffAc1_F7 :=
  ⟨of_decide_eq_true rfl, of_decide_eq_true rfl, of_decide_eq_true rfl⟩

theorem Laws.WordShape.huffAc1_F8 : Laws.WordShape.Statement .huffAc1_F8 :=
  ⟨of_decide_eq_true rfl, of_decide_eq_true rfl, of_decide_eq_true rfl⟩

theorem Laws.WordShape.huffAc1_F9 : Laws.WordShape.Statement .huffAc1_F9 :=
  ⟨of_decide_eq_true rfl, of_decide_eq_true rfl, of_decide_eq_true rfl⟩

theorem Laws.WordShape.huffAc1_FA : Laws.WordShape.Statement .huffAc1_FA :=
  ⟨of_decide_eq_true rfl, of_decide_eq_true rfl, of_decide_eq_true rfl⟩

end Sys2Proof
end

