-- ==== Sys2Proof/Laws/Scheduler.lean ====
section
/-! SUPPORT. What the scheduler's operations can do: BAND and PAD_BAND, APPEND_ROWS. They write PRED, BITBUF,
OUT, PENDING and ROWS_RECEIVED, and nothing else. -/

namespace Sys2Proof.Machine

/-- `t` is `s` with bits coded: PRED, BITBUF and OUT may differ, OUT by an appended end. -/
def State.Codes (s t : State) : Prop := ∃ k, s.coder.Grows k ∧ t = s.withCoder k

theorem State.Codes.refl (s : State) : s.Codes s := ⟨s.coder, .refl _, rfl⟩

theorem State.Codes.trans {a b c : State} : a.Codes b → b.Codes c → a.Codes c := by
  rintro ⟨k, hk, rfl⟩ ⟨k', hk', rfl⟩
  exact ⟨k', hk.trans hk', rfl⟩

theorem State.Codes.foldl {α : Type} (f : State → α → State) (hf : ∀ (s : State) (a : α), s.Codes (f s a)) (l : List α) (s : State) :
    s.Codes (l.foldl f s) := by
  induction l generalizing s with
  | nil => exact .refl s
  | cons a l ih => exact (hf s a).trans (ih _)

theorem State.encBlk_codes (s : State) (q : List Int) (c : Fin 4) : s.Codes (s.encBlk q c) :=
  ⟨_, Coder.encBlk_grows _ _ _ _ _, rfl⟩

theorem State.codeMcu_codes (s : State) (bx : Nat) : s.Codes (s.codeMcu bx) :=
  State.Codes.foldl (fun s c => s.codeBlock bx c) (fun s _ => s.encBlk_codes _ _) _ s

/-- BAND codes bits and empties PENDING. -/
theorem State.band_eq (s : State) : ∃ t, s.Codes t ∧ s.band = t.withPending [] :=
  ⟨_, State.Codes.foldl State.codeMcu (fun s bx => s.codeMcu_codes bx) _ s, rfl⟩

@[simp] theorem State.band_pending (s : State) : s.band.pending = [] := rfl

/-- PAD_BAND leaves 8 rows, if there was at most that. -/
theorem State.padBand_length (s : State) (h : s.pending.length ≤ 8) : s.padBand.pending.length = 8 := by
  simp [State.padBand, Config.bandHeight]
  omega

/-- The row CONVERT_ROW makes has a plane for each component, each as wide as the image. -/
theorem convertRow_shape (ct : ColorType) (w : Nat) (strip : List Byte) (off : Nat) :
    (convertRow ct w strip off).length = ct.ncomp ∧ ∀ plane ∈ convertRow ct w strip off, plane.length = w := by
  simp +contextual [convertRow]

/-- What one row of APPEND_ROWS does: it is counted, and is pending, or with the seven before it is coded. -/
theorem State.appendRow_eq (s : State) (strip : List Byte) (off : Nat) :
    ∃ t p, s.Codes t ∧ s.appendRow strip off = (t.withPending p).withRowsReceived (s.rowsReceived + 1) ∧
      (s.pending.length ≤ 7 → p.length = (s.pending.length + 1) % 8) ∧
      (s.RowsShaped → ∀ r ∈ p, r.length = s.ncomp ∧ ∀ plane ∈ r, plane.length = s.width.toNat) := by
  have shape := convertRow_shape s.colorType s.width.toNat strip off
  unfold State.appendRow
  simp only
  split
  · rename_i h
    obtain ⟨t, ⟨k, hk, rfl⟩, ht⟩ := State.band_eq
      ((s.withPending (s.pending ++ [convertRow s.colorType s.width.toNat strip off])).withRowsReceived
        (s.rowsReceived + 1))
    refine ⟨s.withCoder k, [], ⟨k, hk, rfl⟩, by rw [ht]; rfl, fun _ => ?_, by simp⟩
    simp [Config.bandHeight] at h
    simp [h]
  · rename_i h
    refine ⟨s, s.pending ++ [convertRow s.colorType s.width.toNat strip off], .refl s, rfl, fun hp => ?_,
      fun hs r hr => ?_⟩
    · simp [Config.bandHeight] at h
      simp
      omega
    · rcases List.mem_append.mp hr with hr | hr
      · exact hs r hr
      · rw [List.mem_singleton.mp hr]
        exact shape

/-- What APPEND_ROWS does with `n` rows (R191). -/
theorem State.appendRows_eq (s : State) (rows : List Byte) (n : Nat) :
    ∃ t p, s.Codes t ∧ s.appendRows rows n = (t.withPending p).withRowsReceived (s.rowsReceived + n) ∧
      (s.pending.length ≤ 7 → p.length = (s.pending.length + n) % 8) ∧
      (s.RowsShaped → ∀ r ∈ p, r.length = s.ncomp ∧ ∀ plane ∈ r, plane.length = s.width.toNat) := by
  induction n with
  | zero => exact ⟨s, s.pending, .refl s, rfl, fun h => by omega, id⟩
  | succ n ih =>
    obtain ⟨t, p, ⟨k, hk, rfl⟩, he, hl, hs⟩ := ih
    have step : s.appendRows rows (n + 1) = (s.appendRows rows n).appendRow rows (n * s.stride) := by
      simp [State.appendRows, List.range_succ]
    rw [step, he]
    obtain ⟨u, p', ⟨k', hk', rfl⟩, he', hl', hs'⟩ := State.appendRow_eq
      (((s.withCoder k).withPending p).withRowsReceived (s.rowsReceived + n)) rows (n * s.stride)
    refine ⟨s.withCoder k', p', ⟨k', hk.trans hk', rfl⟩, by rw [he']; rfl, fun h => ?_, fun h => hs' (hs h)⟩
    have := hl h
    have h7 := hl' (by simp; omega)
    simp at h7
    omega

/-- One more row of APPEND_ROWS (R191). -/
theorem State.appendRows_succ (s : State) (rows : List Byte) (n : Nat) :
    s.appendRows rows (n + 1) = (s.appendRows rows n).appendRow rows (n * s.stride) := by
  simp [State.appendRows, List.range_succ]

end Sys2Proof.Machine
end

