-- ==== Sys2Proof/Tests/Slice0.lean ====
section
/-! SUPPORT. The model's own tests: ill-formed terms the checks refuse, words written out from the spec's
encodings, single steps against the vectors of 95_test_vectors.md, and for every statement of Obligations.lean
that has hypotheses a witness that meets them. -/

namespace Sys2Proof.Tests

open Sys2Proof Sys2Proof.Machine

-- one theorem after another: a thread for each would take more memory than the sandbox has
set_option Elab.async false

/-! ## Small states -/

/-- The state after an instruction, none where it stops. -/
def after (i : Instr) (s : State) : Option State :=
  match exec i s with
  | .next t => some t
  | .fault _ => none
  | .refused _ => none

/-- The state after one step, none where it stops. -/
def afterStep (s : State) : Option State :=
  match step s with
  | .next t => some t
  | .fault _ => none
  | .refused _ => none

/-- The reason of a fault. -/
def faultOf (i : Instr) (s : State) : Option Fault :=
  match exec i s with
  | .next _ => none
  | .fault f => some f
  | .refused _ => none

/-- An instance of the given configuration at quality `q`, Active with nothing sent and nothing held. -/
def inst (ct : ColorType) (w h : Half) (q : BitVec 7) : State :=
  (State.reset.configure w h ct q).withLifecycle .active

/-- The configuration of the vectors of section 2.2: 2 by 3, Rgb, quality 85; STRIDE is 6. -/
def small : State := inst .rgb 2 3 85

/-- A row of `n` samples 100 in each of `c` planes. -/
def greyRow (c n : Nat) : Row := List.replicate c (List.replicate n 100)

/-- The block whose zig-zag entries `k` are as listed, the others 0. -/
def zzBlock (entries : List (Nat × Int)) : List Int :=
  (List.range 64).map (fun k => (entries.lookup k).getD 0)

/-- The block in natural order whose zig-zag entries are as listed. -/
def natBlock (entries : List (Nat × Int)) : List Int :=
  (List.range 64).map (fun i => (entries.lookup (zigzag.idxOf i)).getD 0)

/-- The bits an instruction adds to an empty BITBUF and an empty OUT, read back from both. -/
def bitsSent (i : Instr) (s : State) : Option (List Byte × List Bool) :=
  (after i { s with bitbuf := [], out := [] }).map (fun t => (t.out, t.bitbuf))

/-! ## Ill-formed terms, one for each check -/

theorem test_wf_status_ok : Instr.wf (.statusOk [0xFF, 0xD9]) = true := by decide

/-- A strip or a response longer than its 32-bit count is ill formed (R90, R92). -/
theorem test_ill_long (rows : List Byte) (h : rows.length = 2 ^ 32) :
    Instr.wf (.encodeStrip rows) = false ∧ Instr.wf (.statusOk rows) = false :=
  ⟨decide_eq_false (by omega), decide_eq_false (by omega)⟩

theorem test_ill_qscale : Instr.wf (.qscale baseLuma 0) = false ∧ Instr.wf (.qscale baseLuma 101) = false ∧ Instr.wf (.qscale [16] 50) = false := by decide

theorem test_ill_extract : Instr.wf (.extract 8192 0) = false ∧ Instr.wf (.extract 8191 3) = true := by decide

theorem test_ill_fdct : Instr.wf (.fdct1d [1, 2, 3] true) = false ∧ Instr.wf (.fdct [0]) = false := by decide

theorem test_ill_quant : Instr.wf (.quant [0] 0) = false ∧ Instr.wf (.transform [] 1) = false := by decide

theorem test_ill_huffgen : Instr.wf (.huffgen [1] [7]) = false ∧ Instr.wf (.huffgen (huffBits .dc0) [0]) = false := by decide

theorem test_ill_mag : Instr.wf (.mag 5 2) = false ∧ Instr.wf (.mag (-5) 4) = false ∧ Instr.wf (.mag 0 1) = false := by decide

theorem test_ill_blocks : Instr.wf (.encAc [1] 0) = false ∧ Instr.wf (.encblk [1] 0) = false := by decide

theorem test_ill_putbits : Instr.wf (.putbits 8 3) = false ∧ Instr.wf (.putbits 0 17) = false ∧ Instr.wf (.putbits 7 3) = true := by decide

/-! ## Words written out from the encodings -/

/-- 2.1: CONSTRUCT w=65535 h=65535 ct=Ycck q=100 -/
theorem test_decode_construct : decode [0x01, 0x00, 0x00, 0xFF, 0xFF, 0x00, 0x00, 0xFF, 0xFF, 0x08, 0x64] = .packet (.construct 65535 65535 8 100) [] := by decide +kernel

/-- 2.1: a whole packet with w=65536 -/
theorem test_decode_construct_wide : decode [0x01, 0x00, 0x01, 0x00, 0x00, 0x00, 0x00, 0x00, 0x01, 0x00, 0x01] = .packet (.construct 65536 1 0 1) [] := by decide +kernel

/-- 2.1 -/
theorem test_decode_encode_strip : decode [0x02, 0x00, 0x00, 0x00, 0x03, 0xFF, 0x00, 0x00] = .packet (.encodeStrip [0xFF, 0, 0]) [] := by decide +kernel

/-- 2.1 -/
theorem test_decode_encode_strip_empty : decode [0x02, 0x00, 0x00, 0x00, 0x00] = .packet (.encodeStrip []) [] := by decide +kernel

/-- 2.1, U3: two FINISH packets -/
theorem test_decode_finish_twice : decode [0x03, 0x03] = .packet .finish [0x03] := by decide +kernel

/-- 2.1 -/
theorem test_decode_take_output : decode [0x04] = .packet (.takeOutput) [] := by decide +kernel

/-- 2.1 -/
theorem test_decode_header_bytes : decode [0x05, 0x00, 0x00, 0x00, 0x0A, 0x00, 0x00, 0x00, 0x09, 0x00, 0x32] = .packet (.headerBytes 10 9 0 50) [] := by decide +kernel

/-- 2.1 -/
theorem test_decode_footer_bytes : decode [0x06] = .packet (.footerBytes) [] := by decide +kernel

/-- 2.1 -/
theorem test_decode_dispose : decode [0x07] = .packet (.dispose) [] := by decide +kernel

/-- 2.1, R95 -/
theorem test_decode_reserved : decode [0x00] = .packet .reservedOp00 [] ∧ decode [0x08] = .packet (.reservedOp08 0) [] ∧
    decode [0x1F] = .packet (.reservedOp10 15) [] ∧ decode [0x20] = .packet (.reservedOp20 0) [] ∧
    decode [0x55] = .packet (.reservedOp40 0x15) [] ∧ decode [0xFF] = .packet (.reservedOp80 0x7F) [] := by decide +kernel

/-- 2.1, R96 -/
theorem test_decode_not_whole : decode [0x01, 0, 0, 0, 1] = .notWhole ∧ decode [0x02, 0, 0, 0, 3, 0xFF, 0] = .notWhole ∧ decode [] = .idle := by decide +kernel

/-- 2.1 -/
theorem test_decode_responses : decodeResponse [0, 0, 0, 0, 2, 0xFF, 0xD9] = some (.statusOk [0xFF, 0xD9]) ∧
    decodeResponse [3, 0, 0, 0, 0] = some .statusMalformedStripLength ∧ decodeResponse [9, 0, 0, 0, 0] = some .statusIllegalCommand := by decide +kernel

/-- R93 -/
theorem test_decode_responses_codes : [1, 2, 4, 5, 6, 7, 8].map (fun b => decodeResponse [b, 0, 0, 0, 0]) =
    [some .statusInvalidDimension, some .statusInvalidQuality, some .statusRowOverflow, some .statusIncompleteImage,
      some .statusEncoderFinished, some .statusInvalidColorType, some .statusNotConstructed] := by decide +kernel

/-- R92, R93 -/
theorem test_decode_response_bad : decodeResponse [10, 0, 0, 0, 0] = none ∧ decodeResponse [3, 0, 0, 0, 1, 7] = none ∧ decodeResponse [0, 0, 0, 0, 1] = none := by decide +kernel

/-- R94 -/
theorem test_decode_colors : decodeColor 0 [1] = some (.cvtLuma 1) ∧ decodeColor 1 [1, 2, 3] = some (.cvtRgb 1 2 3) ∧
    decodeColor 2 [1, 2, 3, 4] = some (.cvtRgba 1 2 3 4) ∧ decodeColor 3 [1, 2, 3] = some (.cvtBgr 1 2 3) ∧
    decodeColor 4 [1, 2, 3, 4] = some (.cvtBgra 1 2 3 4) ∧ decodeColor 5 [1, 2, 3] = some (.cvtYcbcr 1 2 3) ∧
    decodeColor 6 [1, 2, 3, 4] = some (.cvtCmyk 1 2 3 4) ∧ decodeColor 7 [1, 2, 3, 4] = some (.cvtCmykAsYcck 1 2 3 4) ∧
    decodeColor 8 [1, 2, 3, 4] = some (.cvtYcck 1 2 3 4) := by decide +kernel

/-- R95 -/
theorem test_decode_reserved_colors : decodeColor 0x09 [] = some .reservedColor09 ∧ decodeColor 0x0B [] = some (.reservedColor0A 1) ∧
    decodeColor 0x0C [] = some (.reservedColor0C 0) ∧ decodeColor 0x1F [] = some (.reservedColor10 15) ∧
    decodeColor 0x20 [] = some (.reservedColor20 0) ∧ decodeColor 0x7F [] = some (.reservedColor40 63) ∧
    decodeColor 0xFF [] = some (.reservedColor80 127) ∧ decodeColor 0 [] = none := by decide +kernel

/-- R101, R118 -/
theorem test_decode_markers : decodeSegment [0xFF, 0xD8] = some .writeSoi ∧ decodeSegment [0xFF, 0xE0] = some .writeApp0 ∧
    decodeSegment [0xFF, 0xEE] = some .writeApp14 ∧ decodeSegment [0xFF, 0xC0] = some .writeSof0 ∧
    decodeSegment [0xFF, 0xDA] = some .writeSos ∧ decodeSegment [0xFF, 0xD9] = some .writeEoi ∧
    decodeSegment [0xFF, 0xC1] = none := by decide +kernel

/-- R106, R108 -/
theorem test_decode_table_markers : decodeSegment [0xFF, 0xDB, 0, 0x43, 1] = some (.writeDqt 1) ∧ decodeSegment [0xFF, 0xC4, 0, 0x1F, 0] = some (.writeDht 0 0) ∧
    decodeSegment [0xFF, 0xC4, 0, 0xB5, 0x11] = some (.writeDht 1 1) := by decide +kernel

/-- 2.6, with two bits after the code -/
theorem test_decode_huff_dc0_07 : decodeHuff .dc0 [true, true, true, true, false, true, false] = some (.huffDc0_07, [true, false]) := by decide +kernel

/-- 2.6, with two bits after the code -/
theorem test_decode_huff_dc0_0B : decodeHuff .dc0 [true, true, true, true, true, true, true, true, false, true, false] = some (.huffDc0_0B, [true, false]) := by decide +kernel

/-- 2.6, with two bits after the code -/
theorem test_decode_huff_ac0_F0 : decodeHuff .ac0 [true, true, true, true, true, true, true, true, false, false, true, true, false] = some (.huffAc0_F0, [true, false]) := by decide +kernel

/-- 2.6, with two bits after the code -/
theorem test_decode_huff_ac0_FA : decodeHuff .ac0 [true, true, true, true, true, true, true, true, true, true, true, true, true, true, true, false, true, false] = some (.huffAc0_FA, [true, false]) := by decide +kernel

/-- 2.6, with two bits after the code -/
theorem test_decode_huff_dc1_0B : decodeHuff .dc1 [true, true, true, true, true, true, true, true, true, true, false, true, false] = some (.huffDc1_0B, [true, false]) := by decide +kernel

/-- 2.6, with two bits after the code -/
theorem test_decode_huff_ac1_E1 : decodeHuff .ac1 [true, true, true, true, true, true, true, true, true, false, false, false, false, false, true, false] = some (.huffAc1_E1, [true, false]) := by decide +kernel

/-- 2.6, with two bits after the code -/
theorem test_decode_huff_ac1_00 : decodeHuff .ac1 [false, false, true, false] = some (.huffAc1_00, [true, false]) := by decide +kernel

/-- R120: no code is all 1 bits -/
theorem test_decode_huff_ones : decodeHuff .ac0 (List.replicate 20 true) = none := by decide +kernel

/-- log 7 -/
theorem test_table_words : decodeTableWord 8 3 = some .finish ∧ (afterStep (State.reset.withFetchWord 8 3)).map (·.response) = some (some ⟨.notConstructed, []⟩) := by decide +kernel

/-- The listed code of an instruction (R233), read back alone. -/
def readsBack (i : Instr) : Bool :=
  match encode i with
  | .code t v n => decide (decodeHuff t (bitsMsb v n) = some (i, []))
  | .packet _ => false
  | .response _ => false
  | .color _ _ => false
  | .segment _ => false
  | .internal => false

/-- R233: every code of the listing -/
theorem test_decode_listing_dc0 : dc0Instrs.all readsBack = true := by decide +kernel

/-- R233: every code of the listing -/
theorem test_decode_listing_ac0 : ac0Instrs.all readsBack = true := by decide +kernel

/-- R233: every code of the listing -/
theorem test_decode_listing_dc1 : dc1Instrs.all readsBack = true := by decide +kernel

/-- R233: every code of the listing -/
theorem test_decode_listing_ac1 : ac1Instrs.all readsBack = true := by decide +kernel

/-! ## Host commands (vectors 2.2) -/

/-- 2.2 -/
theorem test_construct_dimension_first : (after (.construct 0 5 1 0) small).map (·.response) = some (some ⟨.invalidDimension, []⟩) := by decide +kernel

/-- 2.2 -/
theorem test_construct_quality_before_color : (after (.construct 2 3 9 0) small).map (·.response) = some (some ⟨.invalidQuality, []⟩) := by decide +kernel

/-- 2.2 -/
theorem test_construct_color : (after (.construct 2 3 9 85) small).map (·.response) = some (some ⟨.invalidColorType, []⟩) := by decide +kernel

/-- 2.2, R205 -/
theorem test_construct_ok : (after (.construct 2 3 1 85) State.reset).map (fun t => (t.lifecycle, t.out.length, t.pending.length, t.rowsReceived, t.qtLuma.take 4)) =
    some (.fresh, 623, 0, 0, [5, 3, 3, 5]) := by decide +kernel

/-- 2.2 -/
theorem test_construct_largest : (after (.construct 65535 65535 0 1) State.reset).map (fun t => (t.width, t.height, t.out.length)) = some (65535, 65535, 328) := by decide +kernel

/-- V-P1, R268 -/
theorem test_header_bytes : ((after (.headerBytes 1 1 1 85) State.reset).bind (·.response)).map (fun r => (r.bytes.length, (r.bytes.drop 158).take 19)) =
    some (623, [0xFF, 0xC0, 0x00, 0x11, 0x08, 0x00, 0x01, 0x00, 0x01, 0x03, 0x01, 0x11, 0x00, 0x02, 0x11, 0x01, 0x03, 0x11, 0x01]) := by decide +kernel

/-- 2.2 -/
theorem test_footer_bytes : (after .footerBytes small).map (·.response) = some (some ⟨.ok, [0xFF, 0xD9]⟩) := by decide +kernel

/-- R144 -/
theorem test_take_output : (after .takeOutput { small with out := [1, 2] }).map (fun t => (t.response, t.out)) = some (some ⟨.ok, [1, 2]⟩, []) := by decide +kernel

/-- 2.2 -/
theorem test_take_output_unconfigured : (after (.takeOutput) State.reset).map (·.response) = some (some ⟨.notConstructed, []⟩) := by decide +kernel

/-- 2.2: length before row count -/
theorem test_strip_malformed : (after (.encodeStrip (List.replicate 25 0)) small).map (·.response) = some (some ⟨.malformedStripLength, []⟩) := by decide +kernel

/-- 2.2 -/
theorem test_strip_overflow : (after (.encodeStrip (List.replicate 24 0)) small).map (·.response) = some (some ⟨.rowOverflow, []⟩) := by decide +kernel

/-- 2.2 -/
theorem test_strip_rows : (after (.encodeStrip (List.replicate 18 0)) { small with lifecycle := .fresh }).map (fun t => (t.lifecycle, t.rowsReceived, t.pending.length)) = some (.active, 3, 3) := by decide +kernel

/-- 2.2 -/
theorem test_finish_incomplete : (after (.finish) { small with rowsReceived := 1, pending := [greyRow 3 2] }).map (·.response) = some (some ⟨.incompleteImage, []⟩) := by decide +kernel

/-- 2.2 -/
theorem test_finish_finished : (after (.finish) { small with lifecycle := .finished }).map (·.response) = some (some ⟨.encoderFinished, []⟩) := by decide +kernel

/-- V-P1: one red pixel, quality 85: what FINISH returns after the row has been sent. -/
theorem test_finish_red_pixel :
    (after .finish { inst .rgb 1 1 85 with rowsReceived := 1, pending := [[[76], [85], [255]]] }).map
      (fun t => (t.lifecycle, t.response)) =
    some (.finished, some ⟨.ok, [0xF2, 0xCA, 0xFC, 0xE8, 0xFE, 0xCB, 0x3F, 0xFF, 0xD9]⟩) := by decide +kernel

/-- 2.2 -/
theorem test_dispose : (after .dispose small).map (fun t => (t.lifecycle, t.width, t.response)) = some (.unconfigured, 0, some ⟨.ok, []⟩) := by decide +kernel

/-- R148 -/
theorem test_step_reserved : (afterStep { small with input := [0x55, 0x06] }).map (fun t => (t.response, t.input)) = some (some ⟨.illegalCommand, []⟩, [0x06]) := by decide +kernel

/-- R148 -/
theorem test_reserved_ops : [.reservedOp00, .reservedOp08 0, .reservedOp10 1, .reservedOp20 2, .reservedOp40 3, .reservedOp80 4].map
    (fun i => (after i small).map (·.response)) = List.replicate 6 (some (some ⟨.illegalCommand, []⟩)) := by decide +kernel

/-- R92, R93 -/
theorem test_statuses : [.statusOk [7], .statusInvalidDimension, .statusInvalidQuality, .statusMalformedStripLength, .statusRowOverflow,
      .statusIncompleteImage, .statusEncoderFinished, .statusInvalidColorType, .statusNotConstructed, .statusIllegalCommand].map
    (fun i => ((after i small).bind (·.response)).map Response.serialize) =
    [some [0, 0, 0, 0, 1, 7], some [1, 0, 0, 0, 0], some [2, 0, 0, 0, 0], some [3, 0, 0, 0, 0], some [4, 0, 0, 0, 0],
      some [5, 0, 0, 0, 0], some [6, 0, 0, 0, 0], some [7, 0, 0, 0, 0], some [8, 0, 0, 0, 0], some [9, 0, 0, 0, 0]] := by decide +kernel

/-! ## Color Converter (vectors 2.3) -/

/-- 2.3 -/
theorem test_rgb2ycc_blue : (after (.rgb2ycc 0 0 255) small).map (·.result) = some (.samples [29, 255, 107]) := by decide +kernel

/-- 2.3 -/
theorem test_rgb2ycc_edge : (after (.rgb2ycc 254 255 255) small).map (·.result) = some (.samples [255, 128, 127]) := by decide +kernel

/-- 2.3 -/
theorem test_cvt_luma : (after (.cvtLuma 0x80) small).map (·.result) = some (.samples [128]) := by decide +kernel

/-- 2.3 -/
theorem test_cvt_rgb : (after (.cvtRgb 0xC8 0x64 0x32) small).map (·.result) = some (.samples [124, 86, 182]) := by decide +kernel

/-- 2.3 -/
theorem test_cvt_rgba : (after (.cvtRgba 0xC8 0x64 0x32 0xFF) small).map (·.result) = some (.samples [124, 86, 182]) := by decide +kernel

/-- 2.3 -/
theorem test_cvt_bgr : (after (.cvtBgr 0xC8 0x64 0x32) small).map (·.result) = some (.samples [96, 186, 95]) := by decide +kernel

/-- 2.3 -/
theorem test_cvt_bgra : (after (.cvtBgra 0x32 0x64 0xC8 0x7F) small).map (·.result) = some (.samples [124, 86, 182]) := by decide +kernel

/-- 2.3 -/
theorem test_cvt_ycbcr : (after (.cvtYcbcr 0xC8 0x64 0x32) small).map (·.result) = some (.samples [200, 100, 50]) := by decide +kernel

/-- 2.3 -/
theorem test_cvt_cmyk : (after (.cvtCmyk 0x0A 0x14 0x1E 0x28) small).map (·.result) = some (.samples [237, 121, 134, 40]) := by decide +kernel

/-- 2.3 -/
theorem test_cvt_cmykasycck : (after (.cvtCmykAsYcck 0x37 0x9B 0xCD 0x10) small).map (·.result) = some (.samples [124, 86, 182, 16]) := by decide +kernel

/-- 2.3 -/
theorem test_cvt_ycck : (after (.cvtYcck 0xFF 0 0xFF 0) small).map (·.result) = some (.samples [255, 0, 255, 0]) := by decide +kernel

/-- R297 -/
theorem test_reserved_colors : [.reservedColor09, .reservedColor0A 0, .reservedColor0C 1, .reservedColor10 2, .reservedColor20 3, .reservedColor40 4, .reservedColor80 5].map
    (fun i => (after i small).map (·.response)) = List.replicate 7 (some (some ⟨.invalidColorType, []⟩)) := by decide +kernel

/-- 2.3 -/
theorem test_convert_row : (after (.convertRow [0, 0, 0xFF, 0, 0xFF, 0, 0xFF, 0, 0] 0) (inst .bgr 3 1 85)).map (·.result) =
    some (.row [[76, 150, 29], [85, 44, 255], [255, 21, 107]]) := by decide +kernel

/-- log 8 -/
theorem test_convert_row_ends : faultOf (.convertRow [1, 2, 3] 3) (inst .bgr 1 1 85) = some .stripEnds := by decide +kernel

/-! ## Strip Buffer and scheduler (vectors 2.4) -/

/-- R191 -/
theorem test_append_rows : (after (.appendRows [10, 20, 30] 3) (inst .luma 1 3 85)).map (fun t => (t.pending, t.rowsReceived)) =
    some ([[[10]], [[20]], [[30]]], 3) := by decide +kernel

/-- 2.4: with 5 rows pending, the third row of the strip completes the band and 2 rows stay. -/
theorem test_append_rows_band :
    (after (.appendRows [1, 1, 1, 1, 1] 5) { inst .luma 1 20 85 with rowsReceived := 5, pending := List.replicate 5 [[1]] }).map
      (fun t => (t.pending.length, t.rowsReceived)) = some (2, 10) := by decide +kernel

/-- R194 -/
theorem test_pad_band : (after .padBand { small with pending := [[[1, 2]], [[3, 4]]] }).map (·.pending) = some ([[1, 2]] :: List.replicate 7 [[3, 4]]) := by decide +kernel

/-- log 8 -/
theorem test_pad_band_stops : faultOf .padBand small = some .padBandCount ∧ faultOf .band small = some .bandNotFull := by decide +kernel

/-- V-P1: the band of one red pixel, quality 85. -/
theorem test_band_red_pixel :
    (after .band { inst .rgb 1 1 85 with pending := List.replicate 8 [[76], [85], [255]] }).map
      (fun t => (t.pending, t.pred, t.out)) =
    some ([], ⟨-83, -69, 203, 0⟩, [0xF2, 0xCA, 0xFC, 0xE8, 0xFE, 0xCB]) := by decide +kernel

/-- R207 -/
theorem test_extract_edge : ((after (.extract 0 0) { inst .luma 3 8 85 with pending := List.replicate 8 [[10, 20, 30]] }).map (·.result)) =
    some (.numbers (List.replicate 8 [-118, -108, -98, -98, -98, -98, -98, -98]).flatten) := by decide +kernel

/-- log 8, log 21 -/
theorem test_extract_outside : faultOf (.extract 0 1) { inst .luma 3 8 85 with pending := List.replicate 8 [[10, 20, 30]] } = some .noSuchBlock ∧
    ((after (.extract 1 0) { inst .luma 3 8 85 with pending := List.replicate 8 [[10, 20, 30]] }).map (·.result)) = some (.numbers (List.replicate 64 (-98))) := by decide +kernel

/-! ## Block Transformer (vectors 2.5) -/

/-- 2.5 -/
theorem test_qscale_10 : (after (.qscale baseLuma 10) small).map (fun t => match t.result with | .table q => q.take 8 | _ => []) =
    some [80, 55, 50, 80, 120, 200, 255, 255] := by decide +kernel

/-- 2.5 -/
theorem test_qscale_98_100 : (qscale baseLuma 100 = List.replicate 64 1) ∧ (qscale baseChroma 99).take 5 = [1, 1, 1, 1, 2] ∧ (qscale baseLuma 23)[63]? = some 215 := by decide +kernel

/-- log 9 -/
theorem test_qscale_short : (after (.qscale [16] 50) small).map (fun t => match t.result with | .table q => (q.length, q.head?) | _ => (0, none)) = some (64, some 16) ∧ (after (.qscale baseLuma 0) small).isSome = true := by decide +kernel

/-- 2.5 -/
theorem test_fdct1d_rows : (after (.fdct1d [-128, -128, -128, -128, 127, 127, 127, 127] true) small).map (·.result) = some (.numbers [-16, -3697, 0, 1298, 0, -868, 0, 735]) := by decide +kernel

/-- 2.5 -/
theorem test_fdct1d_columns : (after (.fdct1d [-3, 0, 0, 0, 0, 0, 0, 0] false) small).map (·.result) = some (.numbers [-1, -1, -1, -1, -1, -1, 0, 0]) := by decide +kernel

/-- The block of R214's worked example, level-shifted. -/
def workedBlock : List Int := (List.flatten [[52, 55, 61, 66, 70, 61, 64, 73],
  [63, 59, 55, 90, 109, 85, 69, 72],
  [62, 59, 68, 113, 144, 104, 66, 73],
  [63, 58, 71, 122, 154, 106, 70, 69],
  [67, 61, 68, 104, 126, 88, 68, 70],
  [79, 65, 60, 70, 77, 68, 58, 75],
  [85, 71, 64, 59, 55, 61, 65, 83],
  [87, 79, 69, 68, 65, 76, 78, 94]]).map (· - 128)

/-- R214 -/
theorem test_fdct_worked : (after (.fdct workedBlock) small).map (fun t => match t.result with | .numbers c => c.take 16 | _ => []) =
    some [-3323, -241, -489, 218, 449, -160, -19, 4, 36, -174, -486, 82, 105, -57, -68, 39] := by decide +kernel

/-- log 9 -/
theorem test_fdct_long : (after (.fdct (workedBlock ++ [7])) small).map (·.result) = (after (.fdct workedBlock) small).map (·.result) ∧ (after (.fdct [1]) small).isSome = true := by decide +kernel

/-- 2.5 -/
theorem test_quant_ties : (after (.quant ([-3328, 20, -20, 19, 100, -100] ++ List.replicate 58 0) 0) { small with qtLuma := List.replicate 64 5 }).map
    (fun t => match t.result with | .numbers q => q.take 6 | _ => []) = some [-83, 1, -1, 0, 3, -3] := by decide +kernel

/-- 2.5 -/
theorem test_quant_ends : (after (.quant ([-8192, 8128, 1020, 1019] ++ List.replicate 60 0) 1) { small with qtChroma := [1, 1, 255, 255] ++ List.replicate 60 1 }).map
    (fun t => match t.result with | .numbers q => q.take 4 | _ => []) = some [-1024, 1016, 1, 0] := by decide +kernel

/-- R214 -/
theorem test_transform_worked : (after (.transform workedBlock 0) (inst .luma 8 8 50)).map (fun t => match t.result with | .numbers q => q.take 24 | _ => []) =
    some [-26, -3, -6, 2, 2, -1, 0, 0, 0, -2, -4, 1, 1, 0, 0, 0, -3, 1, 5, -1, -1, 0, 0, 0] := by decide +kernel

/-! ## Entropy Coder (vectors 2.6) -/

/-- 2.6 -/
theorem test_zigzag : zigzag.take 8 = [0, 1, 8, 16, 9, 2, 3, 10] ∧ zigzag.drop 56 = [53, 60, 61, 54, 47, 55, 62, 63] := by decide +kernel

/-- 2.6 -/
theorem test_huffgen : (after (.huffgen (huffBits .ac1) (huffVals .ac1)) small).map (fun t => match t.result with | .codes c l => [c.getD 0xE1 9, l.getD 0xE1 9, c.getD 0x0A 9, l.getD 0x0A 9, l.getD 0xFF 9] | _ => []) =
    some [0b11111111100000, 14, 0b111111110100, 12, 0] := by decide +kernel

/-- 2.6 -/
theorem test_size : [0, 1, -1, 3, -4, 255, -256, 1023, 1024, -2040].map (fun v => (after (.size v) small).map (·.result)) =
    [0, 1, 1, 2, 3, 8, 9, 10, 11, 11].map (fun n => some (.numbers [n])) := by decide +kernel

/-- 2.6 -/
theorem test_mag : (after (.mag (-83) 7) small).map (·.result) = some (.bits [false, true, false, true, true, false, false]) ∧
    (after (.mag 203 8) small).map (·.result) = some (.bits [true, true, false, false, true, false, true, true]) := by decide +kernel

/-- R112, the low bits of v or of v - 1 -/
theorem test_mag_any_size : [((5 : Int), 4), (5, 2), (-5, 2), (0, 3), (5, 0)].map (fun p => (after (.mag p.1 p.2) small).map (·.result)) =
    [[false, true, false, true], [false, true], [true, false], [false, false, false], []].map (fun bits => some (.bits bits)) := by decide +kernel

/-- 2.6 -/
theorem test_enc_dc_least : bitsSent (.encDc (-1024) 0) { small with pred := ⟨1016, 0, 0, 0⟩ } = some ([0xFF, 0x00, 0x00], [false, true, true, true]) := by decide +kernel

/-- 2.6 -/
theorem test_enc_dc_pred : (after (.encDc 203 2) small).map (·.pred) = some ⟨0, 0, 203, 0⟩ := by decide +kernel

/-- 2.6 -/
theorem test_enc_ac_zrl : bitsSent (.encAc (zzBlock [(63, 1)]) 0) small = some ([0xFF, 0x00, 0x3F, 0xE7, 0xFC, 0xFF, 0x00, 0xF5], [true, true]) := by decide +kernel

/-- 2.6 -/
theorem test_enc_ac_run15 : bitsSent (.encAc (zzBlock [(16, 1)]) 0) small = some ([0xFF, 0x00, 0xF5], [true, true, false, true, false]) := by decide +kernel

/-- 2.6 -/
theorem test_encblk_chroma : bitsSent (.encblk (natBlock [(33, -2)]) 1) small = some ([0x3F, 0xAF, 0xEA], [false, false, true, false, false]) := by decide +kernel

/-- 2.6 -/
theorem test_encblk_luma_k : bitsSent (.encblk (natBlock [(1, -1020), (2, 3)]) 3) (inst .ycck 8 8 85) = some ([0x3F, 0xE0, 0xC0, 0x37], [true, false, true, false]) := by decide +kernel

/-- 2.6 -/
theorem test_huff_dc0_07 : bitsSent (.huffDc0_07) small = some ([], [true, true, true, true, false]) := by decide +kernel

/-- 2.6 -/
theorem test_huff_ac0_F1 : bitsSent (.huffAc0_F1) small = some ([0xFF, 0x00, 0xF5], []) := by decide +kernel

/-- 2.6 -/
theorem test_huff_dc1_0B : bitsSent (.huffDc1_0B) small = some ([0xFF, 0x00], [true, true, false]) := by decide +kernel

/-- 2.6 -/
theorem test_huff_ac1_F1 : bitsSent (.huffAc1_F1) small = some ([0xFF, 0x00], [true, false, false, false, false, true, true]) := by decide +kernel

/-! ## Bitstream Writer (vectors 2.7) -/

/-- 2.7 -/
theorem test_putbits_carry : (after (.putbits 0xABCD 16) { small with bitbuf := [true] }).map (fun t => (t.out, t.bitbuf)) = some ([0xD5, 0xE6], [true]) := by decide +kernel

/-- 2.7 -/
theorem test_putbits_stuff : (after (.putbits 0x1FF 9) { small with bitbuf := [true, true, true, true, true, true, true] }).map (fun t => (t.out, t.bitbuf)) = some ([0xFF, 0x00, 0xFF, 0x00], []) := by decide +kernel

/-- 2.7 -/
theorem test_emit_ecs : (after (.emitEcs 0xFF) { small with bitbuf := [] }).map (fun t => (t.out, t.bitbuf)) = some ([0xFF, 0x00], []) := by decide +kernel

/-- 2.7 -/
theorem test_flush_stuff : (after (.flush) { small with bitbuf := [true, true, true, true, true, true, true] }).map (fun t => (t.out, t.bitbuf)) = some ([0xFF, 0x00], []) := by decide +kernel

/-- 2.7 -/
theorem test_flush_pad : (after (.flush) { small with bitbuf := [true, false, true, false, true, false] }).map (fun t => (t.out, t.bitbuf)) = some ([0xAB], []) := by decide +kernel

/-- 2.7 -/
theorem test_write_raw : (after (.writeRaw [0xFF, 0x12]) { small with bitbuf := [true] }).map (fun t => (t.out, t.bitbuf)) = some ([0xFF, 0x12], [true]) := by decide +kernel

/-- 2.7 -/
theorem test_write_soi : (after (.writeSoi) small).map (·.out) = some [0xFF, 0xD8] := by decide +kernel

/-- 2.7 -/
theorem test_write_app0 : (after (.writeApp0) small).map (·.out) = some [0xFF, 0xE0, 0x00, 0x10, 0x4A, 0x46, 0x49, 0x46, 0x00, 0x01, 0x01, 0x00, 0x00, 0x01, 0x00, 0x01, 0x00, 0x00] := by decide +kernel

/-- 2.7 -/
theorem test_write_app14 : (after (.writeApp14) small).map (·.out) = some [0xFF, 0xEE, 0x00, 0x0E, 0x41, 0x64, 0x6F, 0x62, 0x65, 0x00, 0x64, 0x00, 0x00, 0x00, 0x00, 0x02] := by decide +kernel

/-- 2.7 -/
theorem test_write_dqt : (after (.writeDqt 0) (inst .luma 1 1 50)).map (fun t => t.out.take 13) = some [0xFF, 0xDB, 0x00, 0x43, 0x00, 0x10, 0x0B, 0x0C, 0x0E, 0x0C, 0x0A, 0x10, 0x0E] := by decide +kernel

/-- 2.7 -/
theorem test_write_sof0_wide : (after (.writeSof0) (inst .ycbcr 65535 256 85)).map (·.out) = some [0xFF, 0xC0, 0x00, 0x11, 0x08, 0x01, 0x00, 0xFF, 0xFF, 0x03, 0x01, 0x11, 0x00, 0x02, 0x11, 0x01, 0x03, 0x11, 0x01] := by decide +kernel

/-- 2.7 -/
theorem test_write_sof0_cmyk : (after (.writeSof0) (inst .cmyk 3 2 85)).map (·.out) = some [0xFF, 0xC0, 0x00, 0x14, 0x08, 0x00, 0x02, 0x00, 0x03, 0x04, 0x01, 0x11, 0x00, 0x02, 0x11, 0x01, 0x03, 0x11, 0x01, 0x04, 0x11, 0x00] := by decide +kernel

/-- 2.7 -/
theorem test_write_dht_dc1 : (after (.writeDht 0 1) small).map (·.out) = some [0xFF, 0xC4, 0x00, 0x1F, 0x01, 0x00, 0x03, 0x01, 0x01, 0x01, 0x01, 0x01, 0x01, 0x01, 0x01, 0x01, 0x00, 0x00, 0x00, 0x00, 0x00, 0x00, 0x01, 0x02, 0x03, 0x04, 0x05, 0x06, 0x07, 0x08, 0x09, 0x0A, 0x0B] := by decide +kernel

/-- 2.7 -/
theorem test_write_dht_ac0 : (after (.writeDht 1 0) small).map (fun t => (t.out.length, t.out.take 24)) = some (183, [0xFF, 0xC4, 0x00, 0xB5, 0x10, 0x00, 0x02, 0x01, 0x03, 0x03, 0x02, 0x04, 0x03, 0x05, 0x05, 0x04, 0x04, 0x00, 0x00, 0x01, 0x7D, 0x01, 0x02, 0x03]) := by decide +kernel

/-- 2.7 -/
theorem test_write_sos_luma : (after (.writeSos) (inst .luma 1 1 85)).map (·.out) = some [0xFF, 0xDA, 0x00, 0x08, 0x01, 0x01, 0x00, 0x00, 0x3F, 0x00] := by decide +kernel

/-- 2.7 -/
theorem test_write_sos_four : (after (.writeSos) (inst .ycck 1 1 85)).map (·.out) = some [0xFF, 0xDA, 0x00, 0x0E, 0x04, 0x01, 0x00, 0x02, 0x11, 0x03, 0x11, 0x04, 0x00, 0x00, 0x3F, 0x00] := by decide +kernel

/-- 2.7 -/
theorem test_write_eoi : (after (.writeEoi) small).map (·.out) = some [0xFF, 0xD9] := by decide +kernel

/-- R273 -/
theorem test_write_header : (after .writeHeader (inst .cmyk 3 2 85)).map (fun t => (t.out.length, (t.out.drop 2).take 4, (t.out.drop 156).take 4)) =
    some (626, [0xFF, 0xEE, 0x00, 0x0E], [0xFF, 0xC0, 0x00, 0x14]) := by decide +kernel

/-- R332, R96 -/
theorem test_idle : (afterStep State.reset).map (·.lifecycle) = some .unconfigured ∧ afterStep { State.reset with input := [0x01] } = none := by decide +kernel

/-! ## Witnesses: for each statement with hypotheses, values that meet them -/

/-- `small` with a TAKE_OUTPUT packet sent. -/
def asked : State := { small with input := [0x04] }

theorem witness_StepKeepsInvariant : asked.Inv ∧ ∃ t, step asked = .next t := ⟨by decide +kernel, _, rfl⟩

theorem witness_PredictorsStayInRange : asked.Inv ∧ asked.PredInRange ∧ ∃ t, step asked = .next t :=
  ⟨by decide +kernel, by decide +kernel, _, rfl⟩

theorem witness_StepRunsHeadPacket : decode asked.input = .packet .takeOutput [] ∧ State.reset.input = [] ∧
    decode ({ State.reset with input := [0x02, 0, 0, 0, 1] } : State).input = .notWhole := ⟨rfl, rfl, rfl⟩

theorem witness_DecodedPacketsAreWhole : decode [0x02, 0, 0, 0, 1, 7, 8] = .packet (.encodeStrip [7]) [8] := rfl

theorem witness_CommandPacketsRoundTrip :
    (Instr.wf (.encodeStrip [7]) = true ∧ encode (.encodeStrip [7]) = .packet [0x02, 0, 0, 0, 1, 7]) ∧
    (Instr.wf (.reservedOp80 127) = true ∧ encode (.reservedOp80 127) = .packet [0xFF]) := by decide

theorem witness_ShortPacketsAreNotCommands :
    Instr.wf (.encodeStrip [7]) = true ∧ encode (.encodeStrip [7]) = .packet [0x02, 0, 0, 0, 1, 7] ∧
    (0 < 1 ∧ 1 < [0x02, 0, 0, 0, 1, (7 : Byte)].length) ∧ (0 < 5 ∧ 5 < [0x02, 0, 0, 0, 1, (7 : Byte)].length) := by
  decide

theorem witness_OtherCodesReadBack :
    (Instr.wf (.statusOk [7]) = true ∧ encode (.statusOk [7]) = .response [0, 0, 0, 0, 1, 7]) ∧
    (Instr.wf (.reservedColor80 127) = true ∧ encode (.reservedColor80 127) = .color 0xFF []) ∧
    (Instr.wf (.writeDht 1 1) = true ∧ encode (.writeDht 1 1) = .segment [0xFF, 0xC4, 0, 0xB5, 0x11]) := by decide

theorem witness_HuffmanCodesReadBack : encode .huffDc1_0B = .code .dc1 0b11111111110 11 := rfl

theorem witness_ReservedOpcodesAnswerIllegal :
    (∃ s : State, s.input = (0x00 : Byte) :: [9]) ∧ 8 ≤ (0x08 : Byte).toNat ∧ 8 ≤ (0xFF : Byte).toNat ∧
    ∃ s : State, s.input = (0xFF : Byte) :: [] :=
  ⟨⟨{ small with input := [0x00, 9] }, rfl⟩, by decide, by decide, ⟨{ small with input := [0xFF] }, rfl⟩⟩

/-- CONSTRUCT and HEADER_BYTES: each clause at the ends of its ranges. -/
theorem witness_ConstructEffect :
    ((0 : Quad) = 0 ∨ (1 : Quad) = 0 ∨ 65535 < (0 : Quad).toNat ∨ 65535 < (1 : Quad).toNat) ∧
    ((1 : Quad) = 0 ∨ (65536 : Quad) = 0 ∨ 65535 < (1 : Quad).toNat ∨ 65535 < (65536 : Quad).toNat) ∧
    (1 ≤ (65535 : Quad).toNat ∧ (65535 : Quad).toNat ≤ 65535) ∧ (1 ≤ (1 : Quad).toNat ∧ (1 : Quad).toNat ≤ 65535) ∧
    ((0 : Byte) = 0 ∨ 100 < (0 : Byte).toNat) ∧ ((101 : Byte) = 0 ∨ 100 < (101 : Byte).toNat) ∧
    (1 ≤ (1 : Byte).toNat ∧ (1 : Byte).toNat ≤ 100) ∧ (1 ≤ (100 : Byte).toNat ∧ (100 : Byte).toNat ≤ 100) ∧
    8 < (9 : Byte).toNat ∧ 8 < (255 : Byte).toNat ∧ (0 : Byte) = ColorType.luma.code ∧ (8 : Byte) = ColorType.ycck.code := by
  decide

theorem witness_HeaderBytesEffect :
    (1 ≤ (65535 : Quad).toNat ∧ (65535 : Quad).toNat ≤ 65535) ∧ (1 ≤ (100 : Byte).toNat ∧ (100 : Byte).toNat ≤ 100) ∧
    8 < (9 : Byte).toNat ∧ (4 : Byte) = ColorType.bgra.code := by decide

theorem witness_FreshOutputIsHeader :
    LegalConfig 1 1 0 1 .luma ∧ LegalConfig 65535 65535 8 100 .ycck := by decide

theorem witness_EncodeStripEffect :
    State.reset.lifecycle = .unconfigured ∧ ({ small with lifecycle := .finished } : State).lifecycle = .finished ∧
    (small.lifecycle = .fresh ∨ small.lifecycle = .active) ∧
    (List.replicate 25 (0 : Byte)).length % (small.width.toNat * small.colorType.bpp) ≠ 0 ∧
    0 < small.width.toNat ∧
    ((List.replicate 24 (0 : Byte)).length = 4 * (small.width.toNat * small.colorType.bpp) ∧
      small.height.toNat < small.rowsReceived + 4) ∧
    ((List.replicate 18 (0 : Byte)).length = 3 * (small.width.toNat * small.colorType.bpp) ∧
      small.rowsReceived + 3 ≤ small.height.toNat) ∧
    (([] : List Byte).length = 0 * (small.width.toNat * small.colorType.bpp) ∧
      small.rowsReceived + 0 ≤ small.height.toNat) := by decide +kernel

/-- `small` with all its rows in, 7 bits held and its header taken. -/
def complete : State :=
  { small with rowsReceived := 3, pending := List.replicate 3 (greyRow 3 2), bitbuf := List.replicate 7 true }

theorem witness_FinishEffect :
    State.reset.lifecycle = .unconfigured ∧ ({ small with lifecycle := .finished } : State).lifecycle = .finished ∧
    ((small.lifecycle = .fresh ∨ small.lifecycle = .active) ∧ small.rowsReceived < small.height.toNat) ∧
    ((complete.lifecycle = .fresh ∨ complete.lifecycle = .active) ∧ complete.height.toNat ≤ complete.rowsReceived ∧
      complete.pending.length ≤ 7 ∧ complete.bitbuf.length ≤ 7) := by decide +kernel

theorem witness_TakeOutputEffect :
    State.reset.lifecycle = .unconfigured ∧ small.lifecycle ≠ .unconfigured := by decide +kernel

theorem witness_RejectedCommandChangesNothing :
    isCommand .finish = true ∧ exec .finish State.reset = .next (State.reset.reject .notConstructed) ∧
    Status.notConstructed ≠ .ok := ⟨rfl, rfl, by decide⟩

theorem witness_LifecycleTable :
    (∃ t r, t.response = some r ∧ exec (.construct 1 1 0 50) State.reset = .next t) ∧
    (∃ t r, t.response = some r ∧ exec (.encodeStrip []) small = .next t) ∧
    (∃ t r, t.response = some r ∧ exec .finish complete = .next t) ∧
    (∃ t r, t.response = some r ∧ exec .takeOutput { small with lifecycle := .finished } = .next t) ∧
    (∃ t r, t.response = some r ∧ exec (.headerBytes 0 0 0 0) small = .next t) ∧
    (∃ t r, t.response = some r ∧ exec .footerBytes small = .next t) ∧
    (∃ t r, t.response = some r ∧ exec .dispose small = .next t) :=
  ⟨⟨_, _, rfl, rfl⟩, ⟨_, _, rfl, rfl⟩, ⟨_, _, rfl, rfl⟩, ⟨_, _, rfl, rfl⟩, ⟨_, _, rfl, rfl⟩, ⟨_, _, rfl, rfl⟩, ⟨_, _, rfl, rfl⟩⟩

/-- The last clause of TAKE_OUTPUT in LifecycleTable: a finished instance that meets the invariant. -/
theorem witness_LifecycleTable_finished :
    ({ small with lifecycle := .finished, rowsReceived := 3 } : State).Inv := by decide +kernel

theorem witness_ConfigurationImmutable :
    setsAll .band = false ∧ exec (.size 5) small = .next (small.withResult (.numbers [3])) := ⟨rfl, rfl⟩

theorem witness_RegisterWriters :
    (writesLifecycle .band = false ∧ writesRowsReceived .finish = false ∧ writesPending (.encDc 0 0) = false ∧
      writesPred .flush = false ∧ writesBitbuf .writeSoi = false ∧ drainsOut .flush = false ∧
      (drainsOut .padBand = false ∧ appendsOut .padBand = false)) ∧
    (∃ t, exec .finish complete = .next t) ∧ (∃ t, exec (.encDc 0 0) small = .next t) ∧
    (∃ t, exec .flush small = .next t) ∧ (∃ t, exec .writeSoi small = .next t) ∧ ∃ t, exec .padBand complete = .next t :=
  ⟨by decide, ⟨_, rfl⟩, ⟨_, rfl⟩, ⟨_, rfl⟩, ⟨_, rfl⟩, ⟨_, rfl⟩⟩

theorem witness_RegisterWriters_band : ∃ t, exec .band { small with pending := List.replicate 8 (greyRow 3 2) } = .next t :=
  ⟨_, rfl⟩

theorem witness_UnconfiguredValuesUnobservable :
    State.reset.lifecycle = .unconfigured ∧ ({ State.reset with width := 7, out := [1] } : State).lifecycle = .unconfigured ∧
    isCommand (.construct 1 1 0 50) = true := by decide

theorem witness_ChunkingInvariance :
    LegalConfig 1 2 0 50 .luma ∧ [(10 : Byte), 20].length = (2 : Quad).toNat * ((1 : Quad).toNat * ColorType.luma.bpp) ∧
    ([some [], none, some [10], some [20]].filterMap id).flatten = [(10 : Byte), 20] ∧
    ∀ strip, some strip ∈ [some [], none, some [(10 : Byte)], some [20]] →
      (1 : Quad).toNat * ColorType.luma.bpp ∣ strip.length := by
  refine ⟨by decide, by decide, by decide, fun strip _ => ?_⟩
  exact ⟨strip.length, (Nat.one_mul _).symm⟩

theorem witness_StreamIsImageEncoding :
    LegalConfig 1 1 1 85 .rgb ∧ [(255 : Byte), 0, 0].length = (1 : Quad).toNat * ((1 : Quad).toNat * ColorType.rgb.bpp) := by
  decide

/-- An empty strip, a TAKE_OUTPUT, the one row; FINISH is accepted. -/
theorem witness_StreamMarkersWellFormed :
    LegalConfig 1 1 0 50 .luma ∧
    ∃ t stream, runCommands ([.construct 1 1 0 50] ++ [some [], none, some [255]].map stripCommand ++ [.finish]) State.reset =
      some (t, stream) ∧ t.lifecycle = .finished :=
  ⟨by decide, _, _, rfl, rfl⟩

/-- Both ends of each reserved range of R95. -/
theorem witness_ReservedColorTypesRejected :
    ([0x09, 0x0A, 0x0B, 0x0C, 0x0F, 0x10, 0x1F, 0x20, 0x3F, 0x40, 0x7F, 0x80, 0xFF] : List Byte).all (8 < ·.toNat) = true ∧
    ([0x09, 0x0A, 0x0B, 0x0C, 0x0F, 0x10, 0x1F, 0x20, 0x3F, 0x40, 0x7F, 0x80, 0xFF] : List Byte).map (decodeColor · []) =
      [.reservedColor09, .reservedColor0A 0, .reservedColor0A 1, .reservedColor0C 0, .reservedColor0C 3,
        .reservedColor10 0, .reservedColor10 15, .reservedColor20 0, .reservedColor20 31, .reservedColor40 0,
        .reservedColor40 63, .reservedColor80 0, .reservedColor80 127].map some := by decide +kernel

theorem witness_StatusesAreResponses :
    encode .statusRowOverflow = .response [4, 0, 0, 0, 0] ∧
    exec .statusRowOverflow small = .next (small.reject .rowOverflow) ∧
    (small.reject .rowOverflow).response = some ⟨.rowOverflow, []⟩ := ⟨rfl, rfl, rfl⟩

theorem witness_ConvertRowPerPixel :
    6 + small.width.toNat * small.colorType.bpp ≤ (List.replicate 12 (7 : Byte)).length ∧
    2 < small.colorType.ncomp ∧ 1 < small.width.toNat := by decide +kernel

/-- One row that does not complete a band, and one that does. -/
theorem witness_AppendRowsLoop :
    (0 + 1) * (small.width.toNat * small.colorType.bpp) ≤ (List.replicate 6 (7 : Byte)).length ∧
    ((small.pending ++ [greyRow 3 2]).length ≠ 8) ∧
    (({ small with pending := List.replicate 7 (greyRow 3 2) } : State).pending ++ [greyRow 3 2]).length = 8 := by
  decide +kernel

theorem witness_BandCodesMcusInOrder :
    ({ inst .cmyk 9 8 50 with pending := List.replicate 8 (greyRow 4 9) } : State).pending.length = 8 ∧
    1 < (inst .cmyk 9 8 50).blocksW ∧ (3 : Fin 4).val < (inst .cmyk 9 8 50).ncomp := by decide +kernel

theorem witness_PadBandRepeatsLastRow :
    ([[[1]]] : List Row) = [] ++ [[[1]]] ∧ ([] : List Row).length ≤ 6 ∧
    (List.replicate 7 [[1]] : List Row) = List.replicate 6 [[1]] ++ [[[1]]] ∧ (List.replicate 6 [[1]] : List Row).length ≤ 6 := by
  decide

theorem witness_OutsideTheRules :
    small.pending.length ≠ 8 ∧ small.pending = [] ∧
    8 ≤ ({ small with pending := List.replicate 8 [] } : State).pending.length ∧
    small.ncomp ≤ (3 : Fin 4).val ∧
    8 ≤ ({ small with bitbuf := List.replicate 8 true } : State).bitbuf.length ∧
    ([] : List Byte).length < 0 + small.stride ∧ ([] : List Byte).length < 1 * small.stride ∧
    (({ small with pending := List.replicate 8 (greyRow 3 2) } : State).pending.length = 8 ∧
      (2 : Fin 4).val < small.ncomp ∧ small.blocksW ≤ 1) ∧ 63 < 64 := by decide +kernel

theorem witness_QscaleEntries :
    baseLuma.length = 64 ∧ 1 ≤ 1 ∧ 1 ≤ 49 ∧ 49 ≤ 100 ∧ 1 ≤ 50 ∧ 1 ≤ 100 ∧ 100 ≤ 100 ∧ baseLuma[0]? = some 16 ∧
    baseLuma[63]? = some 99 := by decide

theorem witness_QscaleMonotone :
    1 ≤ 49 ∧ 49 ≤ 50 ∧ 50 ≤ 100 ∧ (qscale baseLuma 49)[63]? = some 101 ∧ (qscale baseLuma 50)[63]? = some 99 := by
  decide +kernel

theorem witness_ExtractBlock :
    ({ inst .luma 3 8 85 with pending := List.replicate 8 [[10, 20, 30]] } : State).pending.length = 8 ∧
    0 < (inst .luma 3 8 85).blocksW ∧ (0 : Fin 4).val < (inst .luma 3 8 85).ncomp ∧ 7 < 8 ∧
    ([[[10, 20, 30]], [[10, 20, 30]], [[10, 20, 30]], [[10, 20, 30]], [[10, 20, 30]], [[10, 20, 30]], [[10, 20, 30]],
      [[10, 20, 30]]] : List Row)[7]? = some [[10, 20, 30]] ∧
    ([[10, 20, 30]] : Row)[(0 : Fin 4).val]? = some [10, 20, 30] ∧
    ([10, 20, 30] : List Byte)[min (8 * 0 + 7) ((inst .luma 3 8 85).width.toNat - 1)]? = some 30 := by decide +kernel

theorem witness_Fdct1dOutputs : (11 : Nat) = (if true then 11 else 15) ∧ (15 : Nat) = (if false then 11 else 15) := by
  decide

theorem witness_DescaleRoundsHalfUp : 1 ≤ 1 ∧ descale 3 1 = 2 ∧ descale (-3) 1 = -1 := by decide

theorem witness_FdctRowsThenColumns : 7 < 8 := by decide

theorem witness_FdctDcIsSum : workedBlock.length = 64 := by decide

/-- A tie, and a negative coefficient. -/
theorem witness_QuantRoundsTiesAway :
    1 < 64 ∧ numberAt ([100, -100] ++ List.replicate 62 (0 : Int)) 1 = -100 ∧
    (({ small with qtLuma := List.replicate 64 5 } : State).qt 0)[1]? = some 5 ∧ 1 ≤ (5 : Byte).toNat := by decide +kernel

theorem witness_HuffgenIsCanonical :
    (huffBits .dc1).length = 16 ∧ (huffBits .dc1).sum = (huffVals .dc1).length ∧ (huffVals .dc1).Nodup ∧
    (huffBits .dc1)[10]? = some 1 ∧ 0 < 1 ∧ (huffVals .dc1)[((huffBits .dc1).take 10).sum + 0]? = some 11 ∧
    (0xFF : Byte) ∉ huffVals .dc1 := by decide +kernel

theorem witness_StandardCodesAreListed :
    (huffVals .ac0)[161]? = some 0xFA ∧ (huffInstrs .ac0)[161]? = some .huffAc0_FA := by decide +kernel

theorem witness_MagGivesValueBits :
    isSizeOf 5 3 = true ∧ isSizeOf (-5) 3 = true ∧ isSizeOf 0 0 = true ∧ isSizeOf (-2040) 11 = true := by decide

theorem witness_EncDcSendsDifference : complete.bitbuf.length ≤ 7 := by decide

theorem witness_EncAcSendsRuns : complete.bitbuf.length ≤ 7 := by decide

theorem witness_EncblkSendsBlock : complete.bitbuf.length ≤ 7 := by decide

theorem witness_HuffmanRowsSendTheirCode :
    encode .huffAc1_FA = .code .ac1 0b1111111111111110 16 ∧ complete.bitbuf.length ≤ 7 := ⟨rfl, by decide⟩

theorem witness_PutbitsAppendsBits : complete.bitbuf.length ≤ 7 := by decide

theorem witness_FlushPadsWithOnes : complete.bitbuf.length ≤ 7 ∧ small.bitbuf = [] := by decide

theorem witness_MarkersWriteTheirBytes : (small.qt 0).length = 64 ∧ (small.qt 1).length = 64 := by decide +kernel

theorem witness_WriteHeaderSequence : small.Configured := by decide +kernel

theorem witness_HeaderLengths :
    ColorType.bgra.ncomp = ColorType.rgb.ncomp ∧ ColorType.rgb.ncomp = 3 ∧ ColorType.ycck.ncomp ≠ 3 := by decide

end Sys2Proof.Tests
end

section
/-! SUPPORT. Decoding gives well-formed instructions, and what `step` does for each content of the host's queue. -/

namespace Sys2Proof.Machine

theorem decodeConfig_wf {mk : Quad → Quad → Byte → Byte → Instr} (hmk : ∀ w h ct q, (mk w h ct q).wf = true)
    {bs rest : List Byte} {i : Instr} (h : decodeConfig mk bs = .packet i rest) : i.wf = true := by
  unfold decodeConfig at h
  split at h
  · cases h
    exact hmk _ _ _ _
  · cases h

/-- The strip is as long as a 32-bit field says (R90). -/
theorem decodeStrip_wf {bs rest : List Byte} {i : Instr} (h : decodeStrip bs = .packet i rest) : i.wf = true := by
  unfold decodeStrip at h
  split at h
  next l1 l2 l3 l4 tail =>
    dsimp only at h
    split at h
    · cases h
      have hlen := (quadOf l1 l2 l3 l4).isLt
      simp only [Instr.wf, List.length_take, decide_eq_true_eq]
      omega
    · cases h
  · cases h

/-- Only the packets of opcodes 1, 2 and 5 have operand fields; every other opcode is a packet of one byte. -/
theorem decode_wf {bs rest : List Byte} {i : Instr} (h : decode bs = .packet i rest) : i.wf = true := by
  cases bs with
  | nil => cases h
  | cons op tail =>
    by_cases hConstruct : op = 0x01#8
    · subst hConstruct
      exact decodeConfig_wf (mk := .construct) (fun _ _ _ _ => rfl) h
    by_cases hStrip : op = 0x02#8
    · subst hStrip
      exact decodeStrip_wf h
    by_cases hHeader : op = 0x05#8
    · subst hHeader
      exact decodeConfig_wf (mk := .headerBytes) (fun _ _ _ _ => rfl) h
    simp only [decode, if_neg hConstruct, if_neg hStrip, if_neg hHeader] at h
    split_ifs at h <;> cases h <;> rfl

theorem step_of_packet {s : State} {i : Instr} {rest : List Byte} (h : decode s.input = .packet i rest) :
    step s = exec i (s.withInput rest) := by
  simp [step, h]

theorem step_of_idle {s : State} (h : decode s.input = .idle) : step s = .next s := by
  simp [step, h]

theorem step_of_notWhole {s : State} (h : decode s.input = .notWhole) : step s = .refused .packetNotWhole := by
  simp [step, h]

/-- Settles O4: `step` by the three contents of the queue, and a decoded packet is well formed. -/
theorem stepRunsHeadPacket : Obligations.StepRunsHeadPacket := by
  unfold Obligations.StepRunsHeadPacket
  intro s
  refine ⟨fun i rest h => ⟨decode_wf h, step_of_packet h⟩, fun h => step_of_idle ?_, step_of_notWhole⟩
  rw [h]
  rfl

end Sys2Proof.Machine
end

section
/-! SUPPORT. The internal operations outside their rules' requirements (log 8): each fault is the operation's own
guard found false. -/

namespace Sys2Proof.Machine

theorem exec_band_fault {s : State} (h : s.pending.length ≠ 8) : exec .band s = .fault .bandNotFull := if_neg h

theorem exec_padBand_fault {s : State} (h : s.pending = [] ∨ 8 ≤ s.pending.length) :
    exec .padBand s = .fault .padBandCount := by
  refine if_neg ?_
  rintro ⟨hpos, hle⟩
  rcases h with h | h
  · simp [h] at hpos
  · omega

theorem exec_extract_fault {s : State} {bx : Nat} {c : Fin 4} (h : s.pending.length ≠ 8 ∨ s.ncomp ≤ c.val) :
    exec (.extract bx c) s = .fault .noSuchBlock := by
  refine if_neg ?_
  rintro ⟨hfull, hc⟩
  rcases h with h | h
  · exact h hfull
  · omega

theorem exec_convertRow_fault {s : State} {strip : List Byte} {off : Nat} (h : strip.length < off + s.stride) :
    exec (.convertRow strip off) s = .fault .stripEnds :=
  if_neg (Nat.not_le.mpr h)

theorem exec_appendRows_fault {s : State} {rows : List Byte} {n : Nat} (h : rows.length < n * s.stride) :
    exec (.appendRows rows n) s = .fault .stripEnds :=
  if_neg (Nat.not_le.mpr h)

/-- With 8 bits held or more, FLUSH has no bits to add. -/
theorem Coder.flush_of_eight_le {k : Coder} (h : 8 ≤ k.bitbuf.length) : k.flush = k := by
  simp [Coder.flush, Nat.sub_eq_zero_of_le h]

theorem exec_flush_fault {s : State} (h : 8 ≤ s.bitbuf.length) : exec .flush s = .fault .bitsLeft := by
  have hkeep : s.flush.bitbuf = s.bitbuf := by
    rw [State.flush, Coder.flush_of_eight_le (k := s.coder) h]
    rfl
  refine if_neg ?_
  rw [hkeep]
  intro hnil
  simp [hnil] at h

end Sys2Proof.Machine
end

section
/-! SUPPORT. The values of the internal operations for every operand (logs 9, 21): EXTRACT, FDCT1D, QSCALE. -/

namespace Sys2Proof.Machine

theorem exec_extract {s : State} {bx : Nat} {c : Fin 4} (hfull : s.pending.length = 8) (hc : c.val < s.ncomp) :
    exec (.extract bx c) s = .next (s.giveNumbers (extract s.pending s.width.toNat bx c)) :=
  if_pos ⟨hfull, hc⟩

/-- Every column of a block at or past column BLOCKS_W lies past the last real one. -/
theorem extract_past_last (pending : List Row) {width bx : Nat} (c : Fin 4) (h : ceil8 width ≤ bx) :
    extract pending width bx c =
      (List.range 64).map (fun i => ((memReadPend pending (i / 8) c.val (width - 1)).toNat : Int) - 128) := by
  have hclip : ∀ k, min (8 * bx + k) (width - 1) = width - 1 := by
    unfold ceil8 at h
    omega
  simp only [extract, blockSample, hclip]

@[simp] theorem fdct1d_length (d : List Int) (first : Bool) : (fdct1d d first).length = 8 := rfl

/-- FDCT1D reads entries 0 to 7 only. -/
theorem fdct1d_numbersOf (d : List Int) (first : Bool) : fdct1d (numbersOf 8 d) first = fdct1d d first := by
  simp [fdct1d, numberAt_numbersOf]

@[simp] theorem qscale_length (base : List Nat) (q : Nat) : (qscale base q).length = 64 := by simp [qscale]

theorem qscale_getElem? (base : List Nat) (q : Nat) {i : Nat} (h : i < 64) :
    (qscale base q)[i]? = some (qscaleEntry (qualityScale q) (countAt base i)) := by
  simp [qscale, countsOf, h]

theorem qscaleEntry_toNat (scale base : Nat) :
    (qscaleEntry scale base).toNat = max 1 (min 255 ((base * scale + 50) / 100)) := by
  rw [qscaleEntry, BitVec.toNat_ofNat]
  omega

end Sys2Proof.Machine
end

section
/-! SUPPORT. HUFFGEN for every specification (R232, log 9): it fills two tables of 256 entries, and reads 16 counts
and the symbols they take, no more. -/

namespace Sys2Proof.Machine

/-- Reading a symbol of the symbols read is reading the list. -/
theorem byteAt_map_range (vals : List Byte) {n j : Nat} (h : j < n) :
    byteAt ((List.range n).map (byteAt vals)) j = byteAt vals j := by
  simp [byteAt, List.getD, h]

/-- Both tables of HUFFGEN have an entry for each symbol. -/
def HuffGen.Full (g : HuffGen) : Prop := g.code.length = 256 ∧ g.size.length = 256

theorem huffFill_full (vals : List Byte) (l n : Nat) {g : HuffGen} (h : g.Full) : (huffFill vals l n g).Full := by
  induction n generalizing g with
  | zero => exact h
  | succ n ih => exact ih (by simpa [HuffGen.Full] using h)

theorem huffLengths_full (vals : List Byte) (counts : List Nat) (l : Nat) {g : HuffGen} (h : g.Full) :
    (huffLengths vals counts l g).Full := by
  induction counts generalizing l g with
  | nil => exact h
  | cons n counts ih => exact ih _ (huffFill_full vals l n h)

theorem huffGen_full (bits : List Nat) (vals : List Byte) : (huffGen bits vals).Full :=
  huffLengths_full _ _ _ ⟨List.length_replicate, List.length_replicate⟩

@[simp] theorem huffFill_k (vals : List Byte) (l n : Nat) (g : HuffGen) : (huffFill vals l n g).k = g.k + n := by
  induction n generalizing g with
  | zero => rfl
  | succ n ih =>
    rw [huffFill, ih]
    dsimp only
    omega

/-- `n` codes of one length depend on the next `n` symbols only. -/
theorem huffFill_congr {vals vals' : List Byte} (l n : Nat) (g : HuffGen)
    (h : ∀ j < g.k + n, byteAt vals j = byteAt vals' j) : huffFill vals l n g = huffFill vals' l n g := by
  induction n generalizing g with
  | zero => rfl
  | succ n ih =>
    rw [huffFill, huffFill, h g.k (by omega)]
    exact ih _ fun j hj => h j (by dsimp only at hj; omega)

/-- The codes of the lengths still to come depend on the symbols their counts take only. -/
theorem huffLengths_congr {vals vals' : List Byte} (counts : List Nat) (l : Nat) (g : HuffGen)
    (h : ∀ j < g.k + counts.sum, byteAt vals j = byteAt vals' j) :
    huffLengths vals counts l g = huffLengths vals' counts l g := by
  induction counts generalizing l g with
  | nil => rfl
  | cons n counts ih =>
    rw [List.sum_cons] at h
    rw [huffLengths, huffLengths, huffFill_congr l n g fun j hj => h j (by omega)]
    exact ih _ _ fun j hj => h j (by simp only [huffFill_k] at hj; omega)

/-- HUFFGEN of what it reads is HUFFGEN of the whole specification. -/
theorem huffGen_readPart (bits : List Nat) (vals : List Byte) :
    huffGen (countsOf 16 bits) ((List.range (countsOf 16 bits).sum).map (byteAt vals)) = huffGen bits vals := by
  rw [huffGen, huffGen, countsOf_self 16 (countsOf 16 bits) (countsOf_length 16 bits)]
  exact huffLengths_congr _ _ _ fun j hj => byteAt_map_range vals (by simpa using hj)

end Sys2Proof.Machine
end

section
namespace Sys2Proof.Machine

/-- Settles O36: the six faults by their guards, and EXTRACT, FDCT1D, QSCALE and HUFFGEN by their functions' values
on every operand. -/
theorem outsideTheRules : Obligations.OutsideTheRules := by
  unfold Obligations.OutsideTheRules
  intro s
  refine ⟨exec_band_fault, exec_padBand_fault, fun _ _ => exec_extract_fault, exec_flush_fault,
    fun _ _ => exec_convertRow_fault, fun _ _ => exec_appendRows_fault, ?extract, ?fdct1d, ?qscale, ?huffgen⟩
  case extract =>
    intro bx c hfull hc hbx
    rw [exec_extract hfull hc, extract_past_last s.pending c hbx]
    rfl
  case fdct1d =>
    intro d first
    refine ⟨fdct1d d first, rfl, fdct1d_length d first, ?_⟩
    rw [← fdct1d_numbersOf d first]
    rfl
  case qscale =>
    intro base q
    exact ⟨qualityScale q, qscale base q, rfl, qscale_length base q,
      fun i hi => ⟨_, qscale_getElem? base q hi, qscaleEntry_toNat _ _⟩⟩
  case huffgen =>
    intro bits vals
    obtain ⟨hcode, hsize⟩ := huffGen_full bits vals
    refine ⟨_, _, rfl, hcode, hsize, ?_⟩
    rw [← huffGen_readPart bits vals]
    rfl

end Sys2Proof.Machine
end

section
/-! SUPPORT. The host commands: the instructions a packet can hold, and one inversion lemma saying all that a command,
and so a step, can do. -/

namespace Sys2Proof.Machine

/-- The instructions a packet can hold (R90, R95): the seven commands, and the reserved opcodes, known by their one
answer (R148). -/
inductive HostCommand : Instr → Prop
  | construct (w h : Quad) (ct q : Byte) : HostCommand (.construct w h ct q)
  | encodeStrip (rows : List Byte) : HostCommand (.encodeStrip rows)
  | finish : HostCommand .finish
  | takeOutput : HostCommand .takeOutput
  | headerBytes (w h : Quad) (ct q : Byte) : HostCommand (.headerBytes w h ct q)
  | footerBytes : HostCommand .footerBytes
  | dispose : HostCommand .dispose
  | reserved {i : Instr} (h : ∀ s, exec i s = .next (s.reject .illegalCommand)) : HostCommand i

theorem hostCommand_of_encode {i : Instr} {bytes : List Byte} (h : encode i = .packet bytes) : HostCommand i := by
  cases i
  case construct => exact .construct ..
  case encodeStrip => exact .encodeStrip ..
  case finish => exact .finish
  case takeOutput => exact .takeOutput
  case headerBytes => exact .headerBytes ..
  case footerBytes => exact .footerBytes
  case dispose => exact .dispose
  case reservedOp00 | reservedOp08 | reservedOp10 | reservedOp20 | reservedOp40 | reservedOp80 =>
    exact .reserved fun _ => rfl
  all_goals cases h

theorem hostCommand_of_isCommand {i : Instr} (h : isCommand i = true) : HostCommand i := by
  unfold isCommand at h
  split at h
  next hp => exact hostCommand_of_encode hp
  all_goals cases h

theorem decodeConfig_hostCommand {mk : Quad → Quad → Byte → Byte → Instr}
    (hmk : ∀ w h ct q, HostCommand (mk w h ct q)) {bs rest : List Byte} {i : Instr}
    (h : decodeConfig mk bs = .packet i rest) : HostCommand i := by
  unfold decodeConfig at h
  split at h
  · cases h
    exact hmk _ _ _ _
  · cases h

theorem decodeStrip_hostCommand {bs rest : List Byte} {i : Instr} (h : decodeStrip bs = .packet i rest) :
    HostCommand i := by
  unfold decodeStrip at h
  split at h
  · dsimp only at h
    split at h
    · cases h
      exact .encodeStrip _
    · cases h
  · cases h

theorem decode_hostCommand {bs rest : List Byte} {i : Instr} (h : decode bs = .packet i rest) : HostCommand i := by
  cases bs with
  | nil => cases h
  | cons op tail =>
    by_cases hConstruct : op = 0x01#8
    · subst hConstruct
      exact decodeConfig_hostCommand .construct h
    by_cases hStrip : op = 0x02#8
    · subst hStrip
      exact decodeStrip_hostCommand h
    by_cases hHeader : op = 0x05#8
    · subst hHeader
      exact decodeConfig_hostCommand .headerBytes h
    simp only [decode, if_neg hConstruct, if_neg hStrip, if_neg hHeader] at h
    split_ifs at h <;> cases h
    · exact .finish
    · exact .takeOutput
    · exact .footerBytes
    · exact .dispose
    all_goals exact .reserved fun _ => rfl

/-! ## The commands' outcomes -/

/-- The state a CONSTRUCT leaves whose operands passed their tests (R141). -/
def State.construct (s : State) (w h : Half) (ct : ColorType) (q : BitVec 7) : State :=
  (((s.configure w h ct q).writeHeader).withLifecycle .fresh).respond []

/-- The state DISPOSE leaves (R147). -/
def State.dispose (s : State) : State := ((State.reset.withInput s.input).withResult s.result).respond []

/-- All that a host command can do in a state, with the guards it has passed. -/
inductive State.CommandStep (s : State) : State → Prop
  | answer (r : Response) : CommandStep s (s.withResponse (some r))
  | construct {w h : Quad} {b q : Byte} {ct : ColorType} (hc : LegalConfig w h b q ct) :
      CommandStep s (s.construct (w.setWidth 16) (h.setWidth 16) ct (q.setWidth 7))
  | takeStrip {rows : List Byte} (hgate : s.encodeGate = none) (hwhole : rows.length % s.stride = 0)
      (hrows : s.rowsReceived + rows.length / s.stride ≤ s.height.toNat) : CommandStep s (s.takeStrip rows)
  | closeStream (hgate : s.encodeGate = none) (hall : s.height.toNat ≤ s.rowsReceived) :
      CommandStep s s.closeStream
  | drain : CommandStep s s.respondDrain
  | dispose : CommandStep s s.dispose

theorem ColorType.code_of_ofCode {b : Byte} {ct : ColorType} (h : ColorType.ofCode b = some ct) : b = ct.code := by
  unfold ColorType.ofCode at h
  split_ifs at h <;> cases h <;> assumption

/-- Operands that pass CONSTRUCT's tests are a legal configuration. -/
theorem checkConfig_legal {w h : Quad} {b q : Byte} {ct : ColorType} (hok : checkConfig w h b q = .ok ct) :
    LegalConfig w h b q ct := by
  unfold checkConfig at hok
  split at hok
  · cases hok
  next hdim =>
  split at hok
  · cases hok
  next hq =>
  push Not at hdim hq
  split at hok
  · cases hok
  next hcode =>
  cases hok
  obtain ⟨hw, hh, hw', hh'⟩ := hdim
  exact ⟨by omega, hw', by omega, hh', hq.1, hq.2, ColorType.code_of_ofCode hcode⟩

/-- CONSTRUCT's tests decide from the operands alone. -/
theorem exec_construct_eq (w h : Quad) (b q : Byte) :
    (∃ st, ∀ s, exec (.construct w h b q) s = .next (s.reject st)) ∨
    ∃ ct, LegalConfig w h b q ct ∧ ∀ s, exec (.construct w h b q) s =
      .next (s.construct (w.setWidth 16) (h.setWidth 16) ct (q.setWidth 7)) := by
  cases hok : checkConfig w h b q with
  | error st =>
    refine .inl ⟨st, fun s => ?_⟩
    change execConstruct w h b q s = _
    simp [execConstruct, hok]
  | ok ct =>
    refine .inr ⟨ct, checkConfig_legal hok, fun s => ?_⟩
    change execConstruct w h b q s = _
    simp [execConstruct, hok, State.construct]

/-- HEADER_BYTES answers from its operands alone. -/
theorem exec_headerBytes_eq (w h : Quad) (b q : Byte) :
    ∃ r, ∀ s, exec (.headerBytes w h b q) s = .next (s.withResponse (some r)) := by
  cases hok : checkConfig w h b q with
  | error st =>
    refine ⟨⟨st, []⟩, fun s => ?_⟩
    change execHeaderBytes w h b q s = _
    simp [execHeaderBytes, hok, State.reject]
  | ok ct =>
    refine ⟨⟨.ok, headerBytes (w.setWidth 16) (h.setWidth 16) ct q.toNat⟩, fun s => ?_⟩
    change execHeaderBytes w h b q s = _
    simp [execHeaderBytes, hok, State.respond]

theorem exec_encodeStrip_cases (rows : List Byte) (s : State) :
    (∃ st, exec (.encodeStrip rows) s = .next (s.reject st)) ∨
    s.encodeGate = none ∧ rows.length % s.stride = 0 ∧
      s.rowsReceived + rows.length / s.stride ≤ s.height.toNat ∧
      exec (.encodeStrip rows) s = .next (s.takeStrip rows) := by
  change (∃ st, execEncodeStrip rows s = _) ∨ _ ∧ _ ∧ _ ∧ execEncodeStrip rows s = _
  unfold execEncodeStrip
  split
  next st _ => exact .inl ⟨st, rfl⟩
  next hgate =>
  split_ifs with hlen hover
  · exact .inl ⟨_, rfl⟩
  · exact .inl ⟨_, rfl⟩
  · exact .inr ⟨hgate, not_not.mp hlen, Nat.not_lt.mp hover, rfl⟩

theorem exec_finish_cases (s : State) :
    (∃ st, exec .finish s = .next (s.reject st)) ∨
    s.encodeGate = none ∧ s.height.toNat ≤ s.rowsReceived ∧ exec .finish s = .next s.closeStream := by
  change (∃ st, execFinish s = _) ∨ _ ∧ _ ∧ execFinish s = _
  unfold execFinish
  split
  next st _ => exact .inl ⟨st, rfl⟩
  next hgate =>
  split_ifs with hrows
  · exact .inl ⟨_, rfl⟩
  · exact .inr ⟨hgate, Nat.not_lt.mp hrows, rfl⟩

theorem exec_takeOutput_cases (s : State) :
    (∃ st, exec .takeOutput s = .next (s.reject st)) ∨ exec .takeOutput s = .next s.respondDrain := by
  change (∃ st, execTakeOutput s = _) ∨ execTakeOutput s = _
  unfold execTakeOutput
  split
  next st _ => exact .inl ⟨st, rfl⟩
  · exact .inr rfl

/-- Every host command gives a next state, one of `CommandStep`'s. -/
theorem HostCommand.exec_next {i : Instr} (hi : HostCommand i) (s : State) :
    ∃ t, exec i s = .next t ∧ s.CommandStep t := by
  cases hi with
  | construct w h b q =>
    obtain ⟨st, heq⟩ | ⟨ct, hc, heq⟩ := exec_construct_eq w h b q
    · exact ⟨_, heq s, .answer _⟩
    · exact ⟨_, heq s, .construct hc⟩
  | encodeStrip rows =>
    obtain ⟨st, heq⟩ | ⟨hgate, hwhole, hrows, heq⟩ := exec_encodeStrip_cases rows s
    · exact ⟨_, heq, .answer _⟩
    · exact ⟨_, heq, .takeStrip hgate hwhole hrows⟩
  | finish =>
    obtain ⟨st, heq⟩ | ⟨hgate, hall, heq⟩ := exec_finish_cases s
    · exact ⟨_, heq, .answer _⟩
    · exact ⟨_, heq, .closeStream hgate hall⟩
  | takeOutput =>
    obtain ⟨st, heq⟩ | heq := exec_takeOutput_cases s
    · exact ⟨_, heq, .answer _⟩
    · exact ⟨_, heq, .drain⟩
  | headerBytes w h b q =>
    obtain ⟨r, heq⟩ := exec_headerBytes_eq w h b q
    exact ⟨_, heq s, .answer r⟩
  | footerBytes => exact ⟨_, rfl, .answer _⟩
  | dispose => exact ⟨_, rfl, .dispose⟩
  | reserved heq => exact ⟨_, heq s, .answer _⟩

/-- What a step can do: nothing, or what a command does once its packet is taken from the queue (R16, R332). -/
theorem step_cases {s t : State} (h : step s = .next t) :
    t = s ∨ ∃ rest, (s.withInput rest).CommandStep t := by
  cases hd : decode s.input with
  | idle =>
    rw [step_of_idle hd] at h
    cases h
    exact .inl rfl
  | notWhole =>
    rw [step_of_notWhole hd] at h
    cases h
  | packet i rest =>
    rw [step_of_packet hd] at h
    obtain ⟨u, hu, hstep⟩ := (decode_hostCommand hd).exec_next (s.withInput rest)
    rw [hu] at h
    cases h
    exact .inr ⟨rest, hstep⟩

end Sys2Proof.Machine
end

section
/-! SUPPORT. Power-on, CONSTRUCT and DISPOSE: the states that do not depend on the state before. -/

namespace Sys2Proof.Machine

theorem State.reset_inv : State.reset.Inv := by decide

theorem State.reset_predInRange : State.reset.PredInRange := by decide

/-- Settles O1: of power-on's named values (log 5), the two invariants hold by evaluation. -/
theorem resetHasInvariant : Obligations.ResetHasInvariant := by
  unfold Obligations.ResetHasInvariant
  exact ⟨rfl, rfl, rfl, State.reset_inv, State.reset_predInRange⟩

theorem State.configure_configured (s : State) {w h : Half} (ct : ColorType) {q : BitVec 7} (hw : 1 ≤ w.toNat)
    (hh : 1 ≤ h.toNat) (hq : 1 ≤ q.toNat) (hq' : q.toNat ≤ 100) : (s.configure w h ct q).Configured :=
  ⟨hw, hh, hq, hq', rfl, rfl, rfl, rfl, rfl, rfl⟩

@[simp] theorem State.withOut_withOut (s : State) (x y : List Byte) : (s.withOut x).withOut y = s.withOut y := rfl
@[simp] theorem State.withOut_ncomp (s : State) (x : List Byte) : (s.withOut x).ncomp = s.ncomp := rfl
@[simp] theorem State.withOut_qt (s : State) (x : List Byte) (t : Fin 2) : (s.withOut x).qt t = s.qt t := rfl
@[simp] theorem State.withOut_ht (s : State) (x : List Byte) (cls h : Fin 2) : (s.withOut x).ht cls h = s.ht cls h :=
  rfl

section
variable (s : State) (w h : Half) (ct : ColorType) (q : BitVec 7)

@[simp] theorem State.configure_width : (s.configure w h ct q).width = w := rfl
@[simp] theorem State.configure_height : (s.configure w h ct q).height = h := rfl
@[simp] theorem State.configure_ncomp : (s.configure w h ct q).ncomp = ct.ncomp := rfl
@[simp] theorem State.configure_out : (s.configure w h ct q).out = [] := rfl
@[simp] theorem State.configure_qt_luma : (s.configure w h ct q).qt 0 = qscale baseLuma q.toNat := rfl
@[simp] theorem State.configure_qt_chroma : (s.configure w h ct q).qt 1 = qscale baseChroma q.toNat := rfl
@[simp] theorem State.configure_ht_dc0 : (s.configure w h ct q).ht 0 0 = huffTable .dc0 := rfl
@[simp] theorem State.configure_ht_ac0 : (s.configure w h ct q).ht 1 0 = huffTable .ac0 := rfl
@[simp] theorem State.configure_ht_dc1 : (s.configure w h ct q).ht 0 1 = huffTable .dc1 := rfl
@[simp] theorem State.configure_ht_ac1 : (s.configure w h ct q).ht 1 1 = huffTable .ac1 := rfl

end

/-- Right after the writes of CONSTRUCT, WRITE_HEADER leaves in OUT the pure function HEADER of the configuration
(R272). -/
theorem State.writeHeader_configure (s : State) (w h : Half) (ct : ColorType) (q : BitVec 7) :
    (s.configure w h ct q).writeHeader = (s.configure w h ct q).withOut (headerBytes w h ct q.toNat) := by
  by_cases hmono : ct.ncomp > 1 <;> by_cases hadobe : ct.ncomp = 4 <;>
    simp [State.writeHeader, State.writeSoi, State.writeApp0, State.writeApp14, State.writeDqt, State.writeSof0,
      State.writeDht, State.writeSos, State.writeRaw_eq, headerBytes, hmono, hadobe]

/-- CONSTRUCT's state keeps of the state before the host's queue and the result port only. -/
theorem State.construct_congr (s s' : State) (w h : Half) (ct : ColorType) (q : BitVec 7) :
    s.construct w h ct q =
      { s'.construct w h ct q with
        input := (s.construct w h ct q).input, result := (s.construct w h ct q).result } := by
  unfold State.construct
  rw [State.writeHeader_configure, State.writeHeader_configure]
  rfl

/-- In Unconfigured a command's outcome depends on its operands alone. -/
theorem HostCommand.unconfigured_cases {i : Instr} (hi : HostCommand i) :
    (∃ r, ∀ s : State, s.lifecycle = .unconfigured → exec i s = .next (s.withResponse (some r))) ∨
    (∃ w h ct q, ∀ s : State, exec i s = .next (s.construct w h ct q)) ∨
    ∀ s, exec i s = .next s.dispose := by
  cases hi with
  | construct w h b q =>
    obtain ⟨st, heq⟩ | ⟨ct, -, heq⟩ := exec_construct_eq w h b q
    · exact .inl ⟨_, fun s _ => heq s⟩
    · exact .inr (.inl ⟨_, _, _, _, heq⟩)
  | encodeStrip rows =>
    refine .inl ⟨⟨.notConstructed, []⟩, fun s hs => ?_⟩
    change execEncodeStrip rows s = _
    simp [execEncodeStrip, State.encodeGate, hs, State.reject]
  | finish =>
    refine .inl ⟨⟨.notConstructed, []⟩, fun s hs => ?_⟩
    change execFinish s = _
    simp [execFinish, State.encodeGate, hs, State.reject]
  | takeOutput =>
    refine .inl ⟨⟨.notConstructed, []⟩, fun s hs => ?_⟩
    change execTakeOutput s = _
    simp [execTakeOutput, State.takeGate, hs, State.reject]
  | headerBytes w h b q =>
    obtain ⟨r, heq⟩ := exec_headerBytes_eq w h b q
    exact .inl ⟨r, fun s _ => heq s⟩
  | footerBytes => exact .inl ⟨⟨.ok, eoiBytes⟩, fun _ _ => rfl⟩
  | dispose => exact .inr (.inr fun _ => rfl)
  | reserved heq => exact .inl ⟨⟨.illegalCommand, []⟩, fun s _ => heq s⟩

/-- Settles O24: in Unconfigured a command answers, constructs or disposes by its operands alone, and of these only
CONSTRUCT leaves a configured state, which keeps nothing of the registers before. -/
theorem unconfiguredValuesUnobservable : Obligations.UnconfiguredValuesUnobservable := by
  unfold Obligations.UnconfiguredValuesUnobservable
  intro s s' i hs hs' hi
  obtain ⟨r, heq⟩ | ⟨w, h, ct, q, heq⟩ | heq := (hostCommand_of_isCommand hi).unconfigured_cases
  · exact ⟨_, _, heq s hs, heq s' hs', rfl, hs.trans hs'.symm, fun hne => absurd hs hne⟩
  · exact ⟨_, _, heq s, heq s', rfl, rfl, fun _ => s.construct_congr s' w h ct q⟩
  · exact ⟨_, _, heq s, heq s', rfl, rfl, fun hne => absurd rfl hne⟩

end Sys2Proof.Machine
end

section
/-! SUPPORT. What FINISH leaves: FLUSH empties BITBUF, and the last band empties PENDING (R143, R194, R262). -/

namespace Sys2Proof.Machine

@[simp] theorem bitsMsb_length (v n : Nat) : (bitsMsb v n).length = n := by simp [bitsMsb]

/-- One bit more is held, and eight are none. -/
theorem Coder.putBit_bitbuf_length {k : Coder} (b : Bool) (h : k.bitbuf.length ≤ 7) :
    (k.putBit b).bitbuf.length = (k.bitbuf.length + 1) % 8 := by
  unfold Coder.putBit
  split
  next h8 => simp [h8]
  next h8 =>
    simp only [List.length_append, List.length_cons, List.length_nil]
    omega

theorem Coder.foldl_putBit_bitbuf_length (bits : List Bool) {k : Coder} (h : k.bitbuf.length ≤ 7) :
    (bits.foldl Coder.putBit k).bitbuf.length = (k.bitbuf.length + bits.length) % 8 := by
  induction bits generalizing k with
  | nil => exact (Nat.mod_eq_of_lt (Nat.lt_succ_of_le h)).symm
  | cons b bits ih =>
    have hb := Coder.putBit_bitbuf_length b h
    rw [List.foldl_cons, ih (k := k.putBit b) (by omega), hb, List.length_cons]
    omega

/-- FLUSH ends on a byte boundary (R262). -/
theorem Coder.flush_bitbuf {k : Coder} (h : k.bitbuf.length ≤ 7) : k.flush.bitbuf = [] := by
  unfold Coder.flush
  split
  next hpos =>
    rw [← List.length_eq_zero_iff, Coder.putBits, Coder.foldl_putBit_bitbuf_length _ h, bitsMsb_length]
    omega
  next hpos => exact List.length_eq_zero_iff.mp (by omega)

/-- The last band of FINISH: what is pending is padded and coded (R143, R194). -/
def State.lastBand (s : State) : State := if s.pending.length > 0 then s.padBand.band else s

theorem State.lastBand_eq (s : State) : ∃ k, s.coder.Grows k ∧ s.lastBand = (s.withCoder k).withPending [] := by
  unfold State.lastBand
  split
  · obtain ⟨t, ⟨k, hk, rfl⟩, heq⟩ := State.band_eq s.padBand
    exact ⟨k, hk, heq⟩
  next hnone =>
    have hnil : s.pending = [] := List.length_eq_zero_iff.mp (by omega)
    exact ⟨s.coder, .refl _, by rw [← hnil]; rfl⟩

/-- FINISH changes PENDING, the coder's registers and LIFECYCLE only, and drains. -/
theorem State.closeStream_eq (s : State) :
    ∃ k : Coder, (s.bitbuf.length ≤ 7 → k.bitbuf = []) ∧
      s.closeStream = (((s.withCoder k).withPending []).withLifecycle .finished).respondDrain := by
  obtain ⟨k, hk, heq⟩ := s.lastBand_eq
  refine ⟨k.flush.writeRaw eoiBytes, fun h => Coder.flush_bitbuf (hk.1 h), ?_⟩
  change (s.lastBand.flush.writeEoi.withLifecycle .finished).respondDrain = _
  rw [heq]
  rfl

end Sys2Proof.Machine
end

section
/-! SUPPORT. The invariants between commands (R35, R38, R343) under each outcome of a command. -/

namespace Sys2Proof.Machine

/-- ENCODE_STRIP and FINISH pass their gate in Fresh and Active. -/
theorem State.encodeGate_none_iff {s : State} :
    s.encodeGate = none ↔ s.lifecycle = .fresh ∨ s.lifecycle = .active := by
  unfold State.encodeGate
  cases s.lifecycle <;> simp

/-- What the invariants say where strips are taken. -/
theorem State.Inv.of_gate {s : State} (hs : s.Inv) (hgate : s.encodeGate = none) :
    s.Configured ∧ s.rowsReceived ≤ s.height.toNat ∧ s.pending.length = s.rowsReceived % 8 := by
  obtain ⟨-, -, -, hconf, -, hfresh, hactive, -⟩ := hs
  obtain hl | hl := State.encodeGate_none_iff.mp hgate
  · obtain ⟨hrows, hpend, -⟩ := hfresh hl
    exact ⟨(hconf (by simp [hl])).1, by omega, by simp [hrows, hpend]⟩
  · obtain ⟨hc, hle⟩ := hconf (by simp [hl])
    exact ⟨hc, hle, (hactive hl).1⟩

theorem State.rowsShaped_of_nil {s : State} (h : s.pending = []) : s.RowsShaped := by simp [State.RowsShaped, h]

theorem State.Inv.construct (s : State) {w h : Quad} {b q : Byte} {ct : ColorType} (hc : LegalConfig w h b q ct) :
    (s.construct (w.setWidth 16) (h.setWidth 16) ct (q.setWidth 7)).Inv := by
  obtain ⟨hw, hw', hh, hh', hq, hq', -⟩ := hc
  have hconf := s.configure_configured (w := w.setWidth 16) (h := h.setWidth 16) ct (q := q.setWidth 7)
    (by rw [BitVec.toNat_setWidth]; omega) (by rw [BitVec.toNat_setWidth]; omega)
    (by rw [BitVec.toNat_setWidth]; omega) (by rw [BitVec.toNat_setWidth]; omega)
  unfold State.construct
  rw [State.writeHeader_configure]
  exact ⟨Nat.zero_le _, Nat.zero_le _, State.rowsShaped_of_nil rfl, fun _ => ⟨hconf, Nat.zero_le _⟩, nofun,
    fun _ => ⟨rfl, rfl, rfl, .inr rfl⟩, nofun, nofun⟩

theorem State.Inv.takeStrip {s : State} (hs : s.Inv) (hgate : s.encodeGate = none) {rows : List Byte}
    (hrows : s.rowsReceived + rows.length / s.stride ≤ s.height.toNat) : (s.takeStrip rows).Inv := by
  obtain ⟨hconf, -, hcount⟩ := hs.of_gate hgate
  obtain ⟨hbits, hpend, hshape, -⟩ := hs
  obtain ⟨t, p, ⟨k, hk, rfl⟩, heq, hlen, hshaped⟩ := s.appendRows_eq rows (rows.length / s.stride)
  have hp := hlen hpend
  unfold State.takeStrip
  rw [heq]
  refine ⟨hk.1 hbits, ?_, hshaped hshape, fun _ => ⟨hconf, hrows⟩, nofun, nofun, fun _ => ⟨?_, rfl⟩, nofun⟩
  · change p.length ≤ 7
    omega
  · change p.length = (s.rowsReceived + rows.length / s.stride) % 8
    omega

theorem State.Inv.closeStream {s : State} (hs : s.Inv) (hgate : s.encodeGate = none)
    (hall : s.height.toNat ≤ s.rowsReceived) : s.closeStream.Inv := by
  obtain ⟨hconf, hle, -⟩ := hs.of_gate hgate
  obtain ⟨k, hk, heq⟩ := s.closeStream_eq
  have hnil := hk hs.1
  rw [heq]
  refine ⟨?_, Nat.zero_le _, State.rowsShaped_of_nil rfl, fun _ => ⟨hconf, hle⟩, nofun, nofun, nofun,
    fun _ => ⟨Nat.le_antisymm hle hall, rfl, hnil, rfl⟩⟩
  simp [hnil]

theorem State.Inv.respondDrain {s : State} (hs : s.Inv) : s.respondDrain.Inv := by
  obtain ⟨hbits, hpend, hshape, hconf, hunconf, hfresh, hactive, hfinished⟩ := hs
  refine ⟨hbits, hpend, hshape, hconf, fun hl => ?_, fun hl => ?_, fun hl => ?_, fun hl => ?_⟩
  · obtain ⟨hp, hb, -⟩ := hunconf hl
    exact ⟨hp, hb, rfl⟩
  · obtain ⟨hr, hp, hb, -⟩ := hfresh hl
    exact ⟨hr, hp, hb, .inl rfl⟩
  · exact ⟨(hactive hl).1, rfl⟩
  · obtain ⟨hr, hp, hb, -⟩ := hfinished hl
    exact ⟨hr, hp, hb, rfl⟩

theorem State.Inv.dispose (s : State) : s.dispose.Inv := State.reset_inv

/-- Every outcome of a command keeps the invariants. -/
theorem State.Inv.commandStep {s t : State} (hs : s.Inv) (h : s.CommandStep t) : t.Inv := by
  cases h with
  | answer r => exact hs
  | construct hc => exact .construct s hc
  | takeStrip hgate hwhole hrows => exact hs.takeStrip hgate hrows
  | closeStream hgate hall => exact hs.closeStream hgate hall
  | drain => exact hs.respondDrain
  | dispose => exact .dispose s

/-- Settles O2: a step changes nothing, or does what a command does with its packet taken from the queue. -/
theorem stepKeepsInvariant : Obligations.StepKeepsInvariant := by
  unfold Obligations.StepKeepsInvariant
  intro s t hs hstep
  obtain rfl | ⟨rest, hcmd⟩ := step_cases hstep
  · exact hs
  · exact State.Inv.commandStep (s := s.withInput rest) hs hcmd

end Sys2Proof.Machine
end

section
/-! SUPPORT. The range of a coded block's DC coefficient (R213): FDCT's first output is the sum of the 64 samples, and
QUANT divides it by 8 at least. -/

namespace Sys2Proof.Machine

/-- The first output of FDCT1D is the sum of its operands, scaled by 4 in pass 1 and back in pass 2 (R209). -/
theorem fdct1d_first (d : List Int) (hd : d.length = 8) (first : Bool) :
    numberAt (fdct1d d first) 0 = if first then d.sum * 4 else descale d.sum 2 := by
  have hsum : d.sum = numberAt d 0 + numberAt d 7 + (numberAt d 3 + numberAt d 4) +
      (numberAt d 1 + numberAt d 6 + (numberAt d 2 + numberAt d 5)) := by
    conv_lhs => rw [← numbersOf_self 8 d hd]
    simp only [numbersOf, List.range_succ, List.range_zero, List.map_append, List.map_cons, List.map_nil,
      List.sum_append, List.sum_cons, List.sum_nil]
    ring
  rw [hsum]
  rfl

@[simp] theorem blockRow_length (blk : List Int) (r : Nat) : (blockRow blk r).length = 8 := by simp [blockRow]

@[simp] theorem blockColumn_length (blk : List Int) (k : Nat) : (blockColumn blk k).length = 8 := by
  simp [blockColumn]

/-- After pass 1 column 0 holds four times the sums of the rows (R210). -/
theorem blockColumn_fdctRows_zero (blk : List Int) :
    blockColumn (fdctRows blk) 0 = (List.range 8).map (fun r => (blockRow blk r).sum * 4) := by
  have hrow : ∀ r, numberAt (fdct1d (blockRow blk r) true) 0 = (blockRow blk r).sum * 4 := fun r =>
    fdct1d_first _ (blockRow_length blk r) true
  simp only [← hrow]
  rfl

/-- FDCT's DC coefficient is the sum of the block's samples, without rounding (R210). -/
theorem fdct_dc (blk : List Int) :
    numberAt (fdct blk) 0 = ((List.range 8).map (fun r => (blockRow blk r).sum)).sum := by
  have hdc : numberAt (fdct blk) 0 = numberAt (fdct1d (blockColumn (fdctRows blk) 0) false) 0 := rfl
  rw [hdc, fdct1d_first _ (blockColumn_length _ 0), blockColumn_fdctRows_zero, List.sum_map_mul_right]
  simp only [descale, asr]
  norm_num
  omega

theorem sum_bounds {xs : List Int} {lo hi : Int} (h : ∀ x ∈ xs, lo ≤ x ∧ x ≤ hi) :
    xs.length * lo ≤ xs.sum ∧ xs.sum ≤ xs.length * hi := by
  have hlo := xs.card_nsmul_le_sum lo fun x hx => (h x hx).1
  have hhi := xs.sum_le_card_nsmul hi fun x hx => (h x hx).2
  rw [nsmul_eq_mul] at hlo hhi
  exact ⟨hlo, hhi⟩

/-- The DC coefficient of level-shifted samples (R208, R213). -/
theorem fdct_dc_bounds {blk : List Int} (h : ∀ i < 64, -128 ≤ numberAt blk i ∧ numberAt blk i ≤ 127) :
    -8192 ≤ numberAt (fdct blk) 0 ∧ numberAt (fdct blk) 0 ≤ 8128 := by
  have hrow : ∀ r < 8, -1024 ≤ (blockRow blk r).sum ∧ (blockRow blk r).sum ≤ 1016 := fun r hr => by
    have hsum := sum_bounds (xs := blockRow blk r) (lo := -128) (hi := 127) <| by
      simp only [blockRow, List.mem_map, List.mem_range]
      rintro _ ⟨k, hk, rfl⟩
      exact h _ (by omega)
    simpa using hsum
  have hsum := sum_bounds (xs := (List.range 8).map (fun r => (blockRow blk r).sum)) (lo := -1024) (hi := 1016) <| by
    simp only [List.mem_map, List.mem_range]
    rintro _ ⟨r, hr, rfl⟩
    exact hrow r hr
  rw [fdct_dc]
  simpa using hsum

/-- Division by `8 * e` to the nearest integer, for `e` at least 1, is no more than division by 8. -/
theorem quantDiv_le {a bound e : Nat} (he : 1 ≤ e) (ha : a ≤ 8 * bound) : (a + 8 * e / 2) / (8 * e) ≤ bound := by
  have hhalf : 8 * e / 2 = 4 * e := by omega
  have hscale : bound ≤ bound * e := Nat.le_mul_of_pos_right bound he
  refine Nat.le_of_lt_succ (Nat.div_lt_of_lt_mul ?_)
  rw [hhalf]
  linarith

/-- By a table entry of at least 1, the quotient of a DC coefficient in its range (R212, R213). -/
theorem quantOne_bounds {x : Int} {entry : Byte} (he : 1 ≤ entry.toNat) (hx : -8192 ≤ x ∧ x ≤ 8128) :
    -1024 ≤ quantOne x entry ∧ quantOne x entry ≤ 1016 := by
  have hd : ¬ 8 * entry.toNat = 0 := by omega
  simp only [quantOne, if_neg hd]
  split
  next hneg =>
    have hm := quantDiv_le (bound := 1024) he (a := x.natAbs) (by omega)
    generalize (x.natAbs + 8 * entry.toNat / 2) / (8 * entry.toNat) = m at hm
    omega
  next hpos =>
    have hm := quantDiv_le (bound := 1016) he (a := x.natAbs) (by omega)
    generalize (x.natAbs + 8 * entry.toNat / 2) / (8 * entry.toNat) = m at hm
    omega

/-- A block's samples are level-shifted bytes (R208). -/
theorem extract_bounds (pending : List Row) (width bx : Nat) (c : Fin 4) :
    ∀ i < 64, -128 ≤ numberAt (extract pending width bx c) i ∧ numberAt (extract pending width bx c) i ≤ 127 := by
  intro i hi
  rw [numberAt_of_getElem? _ i (blockSample pending width bx c (i / 8) (i % 8)) (by simp [extract, hi]), blockSample]
  have hbyte := (memReadPend pending (i / 8) c.val (min (8 * bx + i % 8) (width - 1))).isLt
  omega

/-- R213: a block's quantised DC coefficient, whatever the samples, for a table whose first entry is at least 1. -/
theorem transform_extract_dc_bounds (pending : List Row) (width bx : Nat) (c : Fin 4) {table : List Byte}
    (ht : 1 ≤ (byteAt table 0).toNat) :
    -1024 ≤ numberAt (transform (extract pending width bx c) table) 0 ∧
      numberAt (transform (extract pending width bx c) table) 0 ≤ 1016 := by
  have hdc : ∀ blk, numberAt (transform blk table) 0 = quantOne (numberAt (fdct blk) 0) (byteAt table 0) := fun _ => rfl
  rw [hdc]
  exact quantOne_bounds ht (fdct_dc_bounds (extract_bounds pending width bx c))

/-- No entry of a table that QSCALE made is 0 (R205, R212). -/
theorem byteAt_qscale_pos (base : List Nat) (q : Nat) : 1 ≤ (byteAt (qscale base q) 0).toNat := by
  rw [byteAt, List.getD, qscale_getElem? base q (by omega), Option.getD_some, qscaleEntry_toNat]
  exact le_max_left _ _

end Sys2Proof.Machine
end

section
/-! SUPPORT. The predictors (R32): a coded block writes its DC coefficient to PRED, and BAND, APPEND_ROWS and FINISH
write nothing else there. -/

namespace Sys2Proof.Machine

theorem Pred.get_set (p : Pred) (c c' : Fin 4) (v : Int) : (p.set c v).get c' = if c' = c then v else p.get c' := by
  fin_cases c <;> fin_cases c' <;> rfl

/-- The predictors are in range, and both tables divide a DC coefficient by 8 at least. -/
def State.DcSafe (s : State) : Prop := s.PredInRange ∧ ∀ t : Fin 2, 1 ≤ (byteAt (s.qt t) 0).toNat

theorem State.Configured.dcSafe {s : State} (hs : s.Configured) (hp : s.PredInRange) : s.DcSafe := by
  obtain ⟨-, -, -, -, hluma, hchroma, -⟩ := hs
  refine ⟨hp, fun t => ?_⟩
  unfold State.qt
  split
  · rw [hluma]
    exact byteAt_qscale_pos _ _
  · rw [hchroma]
    exact byteAt_qscale_pos _ _

theorem State.encBlk_pred (s : State) (q : List Int) (c : Fin 4) : (s.encBlk q c).pred = s.pred.set c (numberAt q 0) :=
  Coder.encBlk_pred _ _ _ _ _

theorem State.DcSafe.codeBlock {s : State} (hs : s.DcSafe) (bx : Nat) (c : Fin 4) : (s.codeBlock bx c).DcSafe := by
  obtain ⟨hp, hqt⟩ := hs
  refine ⟨fun c' => ?_, hqt⟩
  rw [State.codeBlock, State.encBlk_pred, Pred.get_set]
  split
  · exact transform_extract_dc_bounds _ _ _ _ (hqt (tq c))
  · exact hp c'

theorem State.DcSafe.codeMcu {s : State} (hs : s.DcSafe) (bx : Nat) : (s.codeMcu bx).DcSafe :=
  List.foldlRecOn (motive := State.DcSafe) _ _ hs fun _ ht c _ => ht.codeBlock bx c

theorem State.DcSafe.band {s : State} (hs : s.DcSafe) : s.band.DcSafe :=
  List.foldlRecOn (motive := State.DcSafe) (List.range s.blocksW) State.codeMcu hs fun _ ht bx _ => ht.codeMcu bx

theorem State.DcSafe.appendRow {s : State} (hs : s.DcSafe) (strip : List Byte) (off : Nat) :
    (s.appendRow strip off).DcSafe := by
  unfold State.appendRow
  dsimp only
  split
  · exact State.DcSafe.band hs
  · exact hs

theorem State.DcSafe.appendRows {s : State} (hs : s.DcSafe) (rows : List Byte) (n : Nat) :
    (s.appendRows rows n).DcSafe :=
  List.foldlRecOn (motive := State.DcSafe) _ _ hs fun _ ht i _ => ht.appendRow rows (i * s.stride)

theorem State.DcSafe.lastBand {s : State} (hs : s.DcSafe) : s.lastBand.DcSafe := by
  unfold State.lastBand
  split
  · exact State.DcSafe.band (s := s.padBand) hs
  · exact hs

/-- After the last band FINISH writes no predictor. -/
theorem State.closeStream_pred (s : State) : s.closeStream.pred = s.lastBand.pred := Coder.flush_pred _

/-- Every outcome of a command keeps the predictors in range. -/
theorem State.PredInRange.commandStep {s t : State} (hs : s.Inv) (hp : s.PredInRange) (h : s.CommandStep t) :
    t.PredInRange := by
  cases h with
  | answer r => exact hp
  | construct hc =>
    unfold State.construct
    rw [State.writeHeader_configure]
    exact State.reset_predInRange
  | takeStrip hgate hwhole hrows =>
    obtain ⟨hconf, -⟩ := hs.of_gate hgate
    exact ((hconf.dcSafe hp).appendRows _ _).1
  | closeStream hgate hall =>
    obtain ⟨hconf, -⟩ := hs.of_gate hgate
    rw [State.PredInRange, State.closeStream_pred]
    exact (hconf.dcSafe hp).lastBand.1
  | drain => exact hp
  | dispose => exact State.reset_predInRange

/-- Settles O3: only coded blocks write the predictors, and R213's range holds for each. -/
theorem predictorsStayInRange : Obligations.PredictorsStayInRange := by
  unfold Obligations.PredictorsStayInRange
  intro s t hs hp hstep
  obtain rfl | ⟨rest, hcmd⟩ := step_cases hstep
  · exact hp
  · exact State.PredInRange.commandStep (s := s.withInput rest) hs hp hcmd

end Sys2Proof.Machine
end

section
/-! SUPPORT. What an instruction of `exec` can change, by the writers each register's rule names (R21 to R34): one
inversion lemma over all rows of the opcode table. -/

namespace Sys2Proof.Machine

/-- A Huffman code's row sends its code (R233, log 13). -/
theorem exec_code {i : Instr} {t : HuffId} {v n : Nat} (h : encode i = .code t v n) (s : State) :
    exec i s = .next (s.putBits v n) := by
  cases i <;> cases h <;> rfl

/-- Each constructor is a class of instructions: the registers they may change, under their permission to. -/
inductive Effect (i : Instr) (s : State) : State → Prop
  /-- Statuses, rejections, and the commands that read only. -/
  | answer (r : Option Response) : Effect i s (s.withResponse r)
  /-- Operations that only give a value back (log 4). -/
  | value (x : Result) : Effect i s (s.withResult x)
  /-- The byte writers. -/
  | write {t : State} (hout : appendsOut i = true) (ht : s.Writes t) : Effect i s t
  /-- The bit writers, and the coding of blocks. -/
  | code {k : Coder} (hbits : writesBitbuf i = true) (hk : s.coder.Grows k)
      (hpred : k.pred = s.pred ∨ writesPred i = true) : Effect i s (s.withCoder k)
  /-- PAD_BAND. -/
  | pad {p : List Row} (hpend : writesPending i = true) : Effect i s (s.withPending p)
  /-- BAND and APPEND_ROWS. -/
  | bands {k : Coder} {p : List Row} {n : Nat} (hpred : writesPred i = true) (hpend : writesPending i = true)
      (hn : n = s.rowsReceived ∨ writesRowsReceived i = true) (hk : s.coder.Grows k) :
      Effect i s (((s.withCoder k).withPending p).withRowsReceived n)
  /-- TAKE_OUTPUT. -/
  | drain (hdrain : drainsOut i = true) : Effect i s s.respondDrain
  /-- ENCODE_STRIP and FINISH. -/
  | stream {k : Coder} {p : List Row} {n : Nat} {l : Lifecycle} (hl : writesLifecycle i = true)
      (hpred : writesPred i = true) (hpend : writesPending i = true)
      (hn : n = s.rowsReceived ∨ writesRowsReceived i = true) (hdrain : drainsOut i = true) :
      Effect i s ((((s.withCoder k).withPending p).withRowsReceived n).withLifecycle l).respondDrain
  /-- CONSTRUCT and DISPOSE. -/
  | renew {t : State} (hall : setsAll i = true) (hin : t.input = s.input) : Effect i s t

theorem State.construct_input (s : State) (w h : Half) (ct : ColorType) (q : BitVec 7) :
    (s.construct w h ct q).input = s.input := by
  unfold State.construct
  rw [State.writeHeader_configure]
  rfl

/-- An operation with an assertion gives a next state where it holds only. -/
theorem next_of_guard {p : Prop} [Decidable p] {s t : State} {f : Fault}
    (h : (if p then .next s else .fault f : Host.Outcome State Fault Refusal) = .next t) : p ∧ s = t := by
  split at h
  next hp =>
    cases h
    exact ⟨hp, rfl⟩
  next => cases h

/-- What an instruction can do. -/
theorem exec_effect {i : Instr} {s t : State} (h : exec i s = .next t) : Effect i s t := by
  by_cases hcode : isCode i = true
  · have hbits : writesBitbuf i = true := by
      unfold writesBitbuf
      split <;> simp [hcode]
    unfold isCode at hcode
    split at hcode
    next hrow =>
      rw [exec_code hrow] at h
      cases h
      exact .code hbits (Coder.putBits_grows _ _ _) (.inl (Coder.putBits_pred _ _ _))
    all_goals cases hcode
  cases i
  case construct w hgt b q =>
    obtain ⟨st, heq⟩ | ⟨ct, -, heq⟩ := exec_construct_eq w hgt b q <;> rw [heq] at h <;> cases h
    · exact .answer _
    · exact .renew rfl (s.construct_input _ _ _ _)
  case encodeStrip rows =>
    obtain ⟨st, heq⟩ | ⟨-, -, -, heq⟩ := exec_encodeStrip_cases rows s <;> rw [heq] at h <;> cases h
    · exact .answer _
    · obtain ⟨t, p, ⟨k, -, rfl⟩, htake, -⟩ := s.appendRows_eq rows (rows.length / s.stride)
      rw [State.takeStrip, htake]
      exact .stream rfl rfl rfl (.inr rfl) rfl
  case finish =>
    obtain ⟨st, heq⟩ | ⟨-, -, heq⟩ := exec_finish_cases s <;> rw [heq] at h <;> cases h
    · exact .answer _
    · obtain ⟨k, -, hclose⟩ := s.closeStream_eq
      rw [hclose]
      exact .stream (k := k) (p := []) (n := s.rowsReceived) (l := .finished) rfl rfl rfl (.inl rfl) rfl
  case takeOutput =>
    obtain ⟨st, heq⟩ | heq := exec_takeOutput_cases s <;> rw [heq] at h <;> cases h
    · exact .answer _
    · exact .drain rfl
  case headerBytes w hgt b q =>
    obtain ⟨r, heq⟩ := exec_headerBytes_eq w hgt b q
    rw [heq] at h
    cases h
    exact .answer _
  case dispose =>
    cases h
    exact .renew rfl rfl
  case footerBytes | reservedOp00 | reservedOp08 | reservedOp10 | reservedOp20 | reservedOp40 | reservedOp80 |
      statusOk | statusInvalidDimension | statusInvalidQuality | statusMalformedStripLength | statusRowOverflow |
      statusIncompleteImage | statusEncoderFinished | statusInvalidColorType | statusNotConstructed |
      statusIllegalCommand | reservedColor09 | reservedColor0A | reservedColor0C | reservedColor10 |
      reservedColor20 | reservedColor40 | reservedColor80 =>
    cases h
    exact .answer _
  case cvtLuma | cvtRgb | cvtRgba | cvtBgr | cvtBgra | cvtYcbcr | cvtCmyk | cvtCmykAsYcck | cvtYcck | rgb2ycc |
      qscale | fdct1d | fdct | quant | transform | huffgen | size | mag =>
    cases h
    exact .value _
  case convertRow strip off =>
    obtain ⟨-, rfl⟩ := next_of_guard h
    exact .value _
  case extract bx c =>
    obtain ⟨-, rfl⟩ := next_of_guard h
    exact .value _
  case writeSoi | writeApp0 | writeApp14 | writeDqt | writeSof0 | writeDht | writeSos | writeEoi | writeRaw =>
    cases h
    exact .write rfl (s.writeRaw_writes _)
  case emitEcs b =>
    cases h
    rw [Coder.emitEcs_eq]
    exact .write rfl (s.writeRaw_writes _)
  case writeHeader =>
    cases h
    exact .write rfl s.writeHeader_writes
  case appendRows rows n =>
    obtain ⟨-, rfl⟩ := next_of_guard h
    obtain ⟨t, p, ⟨k, hk, rfl⟩, heq, -⟩ := s.appendRows_eq rows n
    rw [heq]
    exact .bands rfl rfl (.inr rfl) hk
  case band =>
    obtain ⟨-, rfl⟩ := next_of_guard h
    obtain ⟨t, ⟨k, hk, rfl⟩, heq⟩ := s.band_eq
    rw [heq]
    exact .bands (k := k) (p := []) (n := s.rowsReceived) rfl rfl (.inl rfl) hk
  case padBand =>
    obtain ⟨-, rfl⟩ := next_of_guard h
    exact .pad rfl
  case encDc dc c =>
    cases h
    exact .code rfl (Coder.encDc_grows _ _ _ _) (.inr rfl)
  case encblk q c =>
    cases h
    exact .code rfl (Coder.encBlk_grows _ _ _ _ _) (.inr rfl)
  case encAc zz c =>
    cases h
    exact .code rfl (Coder.encAc_grows _ _ _) (.inl (Coder.encAc_pred _ _ _))
  case putbits v n =>
    cases h
    exact .code rfl (Coder.putBits_grows _ _ _) (.inl (Coder.putBits_pred _ _ _))
  case flush =>
    obtain ⟨-, rfl⟩ := next_of_guard h
    exact .code rfl (Coder.flush_grows _) (.inl (Coder.flush_pred _))
  all_goals exact absurd rfl hcode

/-- CONSTRUCT and DISPOSE are among the writers of every register. -/
theorem writes_of_setsAll {i : Instr} (h : setsAll i = true) :
    writesLifecycle i = true ∧ writesRowsReceived i = true ∧ writesPending i = true ∧ writesPred i = true ∧
      drainsOut i = true := by
  cases i
  case construct | dispose => exact ⟨rfl, rfl, rfl, rfl, rfl⟩
  all_goals cases h

theorem writesBitbuf_of_writesPred {i : Instr} (h : writesPred i = true) : writesBitbuf i = true := by
  unfold writesBitbuf
  split <;> simp [h]

theorem appendsOut_of_writesBitbuf {i : Instr} (h : writesBitbuf i = true) : appendsOut i = true := by
  unfold appendsOut
  split <;> simp [h]

/-- A clause about instructions without a permission says nothing of one that has it. -/
theorem of_denied {b : Bool} {p : Prop} (hwrites : b = true) (hno : b = false) : p :=
  absurd (hwrites.symm.trans hno) (by decide)

theorem kept_of_denied {b : Bool} {p : Prop} (h : p ∨ b = true) (hno : b = false) : p :=
  h.elim id fun hwrites => of_denied hwrites hno

/-- Settles O22: no class of instructions but CONSTRUCT and DISPOSE writes a configuration register or a table. -/
theorem configurationImmutable : Obligations.ConfigurationImmutable := by
  unfold Obligations.ConfigurationImmutable
  intro i s t h
  cases exec_effect h with
  | answer | value | code | pad | bands | drain | stream =>
    exact ⟨rfl, fun _ => ⟨rfl, rfl, rfl, rfl, rfl, rfl, rfl, rfl, rfl, rfl⟩⟩
  | write hout ht =>
    obtain ⟨bytes, rfl⟩ := ht
    exact ⟨rfl, fun _ => ⟨rfl, rfl, rfl, rfl, rfl, rfl, rfl, rfl, rfl, rfl⟩⟩
  | renew hall hin => exact ⟨hin, of_denied hall⟩

/-- Settles O23: each class of instructions changes the registers it has permission for. -/
theorem registerWriters : Obligations.RegisterWriters := by
  unfold Obligations.RegisterWriters
  intro i s t h
  cases exec_effect h with
  | answer | value =>
    exact ⟨fun _ => rfl, fun _ => rfl, fun _ => rfl, fun _ => rfl, fun _ => rfl, fun _ => List.prefix_rfl,
      fun _ _ => rfl⟩
  | write hout ht =>
    obtain ⟨bytes, rfl⟩ := ht
    exact ⟨fun _ => rfl, fun _ => rfl, fun _ => rfl, fun _ => rfl, fun _ => rfl, fun _ => List.prefix_append _ _,
      fun _ => of_denied hout⟩
  | code hbits hk hpred =>
    have hout := appendsOut_of_writesBitbuf hbits
    exact ⟨fun _ => rfl, fun _ => rfl, fun _ => rfl, kept_of_denied hpred, of_denied hbits, fun _ => hk.2,
      fun _ => of_denied hout⟩
  | pad hpend =>
    exact ⟨fun _ => rfl, fun _ => rfl, of_denied hpend, fun _ => rfl, fun _ => rfl, fun _ => List.prefix_rfl,
      fun _ _ => rfl⟩
  | bands hpred hpend hn hk =>
    have hbits := writesBitbuf_of_writesPred hpred
    have hout := appendsOut_of_writesBitbuf hbits
    exact ⟨fun _ => rfl, kept_of_denied hn, of_denied hpend, of_denied hpred, of_denied hbits, fun _ => hk.2,
      fun _ => of_denied hout⟩
  | drain hdrain =>
    exact ⟨fun _ => rfl, fun _ => rfl, fun _ => rfl, fun _ => rfl, fun _ => rfl, of_denied hdrain,
      of_denied hdrain⟩
  | stream hl hpred hpend hn hdrain =>
    have hbits := writesBitbuf_of_writesPred hpred
    exact ⟨of_denied hl, kept_of_denied hn, of_denied hpend, of_denied hpred, of_denied hbits, of_denied hdrain,
      of_denied hdrain⟩
  | renew hall hin =>
    obtain ⟨hl, hrows, hpend, hpred, hdrain⟩ := writes_of_setsAll hall
    have hbits := writesBitbuf_of_writesPred hpred
    exact ⟨of_denied hl, of_denied hrows, of_denied hpend, of_denied hpred, of_denied hbits, of_denied hdrain,
      of_denied hdrain⟩

end Sys2Proof.Machine
end

section
/-! SUPPORT. Bytes as high and low bits: a test by a mask as a quotient (R95), and the byte order of the 32-bit fields
(R91). -/

namespace Sys2Proof.Machine

theorem toNat_append_add {a k : Nat} (hi : BitVec a) (low : BitVec k) :
    (hi ++ low).toNat = hi.toNat * 2 ^ k + low.toNat := by
  rw [BitVec.toNat_append, ← Nat.shiftLeft_add_eq_or_of_lt low.isLt, Nat.shiftLeft_eq]

theorem toNat_append_div {a k : Nat} (hi : BitVec a) (low : BitVec k) : (hi ++ low).toNat / 2 ^ k = hi.toNat := by
  rw [toNat_append_add, Nat.add_comm, Nat.add_mul_div_right _ _ (Nat.two_pow_pos k), Nat.div_eq_of_lt low.isLt,
    Nat.zero_add]

/-- The quotient is the number of the high bits. -/
theorem append_extractLsb'_of_div {a k : Nat} {x : BitVec (a + k)} {hi : BitVec a} (h : x.toNat / 2 ^ k = hi.toNat) :
    hi ++ x.extractLsb' 0 k = x := by
  refine BitVec.eq_of_toNat_eq ?_
  rw [toNat_append_add, BitVec.extractLsb'_toNat, Nat.shiftRight_zero, ← h, Nat.div_add_mod']

/-- A mask of the high bits keeps the quotient. -/
theorem and_high_eq_iff {a k : Nat} (x : BitVec (a + k)) (hi : BitVec a) :
    x &&& (BitVec.allOnes a ++ 0#k) = hi ++ 0#k ↔ x.toNat / 2 ^ k = hi.toNat := by
  obtain ⟨high, low, rfl⟩ : ∃ (high : BitVec a) (low : BitVec k), x = high ++ low :=
    ⟨_, _, BitVec.extractLsb'_append_extractLsb'.symm⟩
  rw [BitVec.and_append, BitVec.and_allOnes, BitVec.and_zero, BitVec.append_left_inj, toNat_append_div,
    BitVec.toNat_inj]

section
variable (b : Byte)

theorem and_FE_eq_iff : b &&& 0xFE#8 = 0x0A#8 ↔ b.toNat / 2 = 5 := and_high_eq_iff (a := 7) (k := 1) b 5
theorem and_FC_eq_iff : b &&& 0xFC#8 = 0x0C#8 ↔ b.toNat / 4 = 3 := and_high_eq_iff (a := 6) (k := 2) b 3
theorem and_F8_eq_iff : b &&& 0xF8#8 = 0x08#8 ↔ b.toNat / 8 = 1 := and_high_eq_iff (a := 5) (k := 3) b 1
theorem and_F0_eq_iff : b &&& 0xF0#8 = 0x10#8 ↔ b.toNat / 16 = 1 := and_high_eq_iff (a := 4) (k := 4) b 1
theorem and_E0_eq_iff : b &&& 0xE0#8 = 0x20#8 ↔ b.toNat / 32 = 1 := and_high_eq_iff (a := 3) (k := 5) b 1
theorem and_C0_eq_iff : b &&& 0xC0#8 = 0x40#8 ↔ b.toNat / 64 = 1 := and_high_eq_iff (a := 2) (k := 6) b 1

end

theorem quadOf_toNat (b1 b2 b3 b4 : Byte) :
    (quadOf b1 b2 b3 b4).toNat = ((b1.toNat * 256 + b2.toNat) * 256 + b3.toNat) * 256 + b4.toNat := by
  simp only [quadOf, toNat_append_add]
  rfl

theorem quadOf_extractLsb' (v : Quad) :
    quadOf (v.extractLsb' 24 8) (v.extractLsb' 16 8) (v.extractLsb' 8 8) (v.extractLsb' 0 8) = v := by
  have hv := v.isLt
  refine BitVec.eq_of_toNat_eq ?_
  simp only [quadOf_toNat, BitVec.extractLsb'_toNat, Nat.shiftRight_eq_div_pow]
  omega

@[simp] theorem be32_quadOf (b1 b2 b3 b4 : Byte) : be32 (quadOf b1 b2 b3 b4) = [b1, b2, b3, b4] := by
  have h1 := b1.isLt
  have h2 := b2.isLt
  have h3 := b3.isLt
  have h4 := b4.isLt
  simp only [be32, List.cons.injEq, ← BitVec.toNat_inj, quadOf_toNat, BitVec.extractLsb'_toNat,
    Nat.shiftRight_eq_div_pow]
  refine ⟨?_, ?_, ?_, ?_, trivial⟩ <;> omega

end Sys2Proof.Machine
end

section
/-! SUPPORT. The operand fields of a packet, read and written (R90, R91). -/

namespace Sys2Proof.Machine

theorem decodeConfig_configFields (mk : Quad → Quad → Byte → Byte → Instr) (w h : Quad) (ct q : Byte)
    (rest : List Byte) : decodeConfig mk (configFields w h ct q ++ rest) = .packet (mk w h ct q) rest := by
  simp [configFields, be32, decodeConfig, quadOf_extractLsb']

theorem decodeConfig_eq_packet {mk : Quad → Quad → Byte → Byte → Instr} {bs rest : List Byte} {i : Instr}
    (hd : decodeConfig mk bs = .packet i rest) :
    ∃ w h ct q, i = mk w h ct q ∧ bs = configFields w h ct q ++ rest := by
  unfold decodeConfig at hd
  split at hd
  · cases hd
    exact ⟨_, _, _, _, rfl, by simp [configFields]⟩
  · cases hd

theorem decodeStrip_countField {rows : List Byte} (hrows : rows.length < 2 ^ 32) (rest : List Byte) :
    decodeStrip (countField rows.length ++ rows ++ rest) = .packet (.encodeStrip rows) rest := by
  simp only [countField, be32, List.cons_append, List.nil_append, decodeStrip, quadOf_extractLsb',
    BitVec.toNat_ofNat, Nat.mod_eq_of_lt hrows]
  simp

theorem decodeStrip_eq_packet {bs rest : List Byte} {i : Instr} (hd : decodeStrip bs = .packet i rest) :
    ∃ rows, i = .encodeStrip rows ∧ bs = countField rows.length ++ rows ++ rest := by
  unfold decodeStrip at hd
  split at hd
  next l1 l2 l3 l4 tail =>
    dsimp only at hd
    split at hd
    next hlen =>
      cases hd
      exact ⟨_, rfl, by simp [countField, Nat.min_eq_left hlen]⟩
    next => cases hd
  next => cases hd

end Sys2Proof.Machine
end

section
/-! SUPPORT. The reserved opcodes by the ranges that hold them (R95), and `decode` as the inverse of `encode` on
packets. -/

namespace Sys2Proof.Machine

/-- The reserved opcode of a byte from 8 up. -/
def reservedOp (b : Byte) : Instr :=
  if b.toNat / 8 = 1 then .reservedOp08 (b.extractLsb' 0 3)
  else if b.toNat / 16 = 1 then .reservedOp10 (b.extractLsb' 0 4)
  else if b.toNat / 32 = 1 then .reservedOp20 (b.extractLsb' 0 5)
  else if b.toNat / 64 = 1 then .reservedOp40 (b.extractLsb' 0 6)
  else .reservedOp80 (b.extractLsb' 0 7)

theorem decode_of_eight_le {b : Byte} (h : 8 ≤ b.toNat) (tail : List Byte) :
    decode (b :: tail) = .packet (reservedOp b) tail := by
  have hne : ∀ c : Byte, c.toNat < 8 → b ≠ c := by
    rintro c hc rfl
    omega
  simp only [decode, and_F8_eq_iff, and_F0_eq_iff, and_E0_eq_iff, and_C0_eq_iff, reservedOp]
  iterate 8 rw [if_neg (hne _ (by decide))]
  split_ifs <;> rfl

theorem encode_reservedOp {b : Byte} (h : 8 ≤ b.toNat) : encode (reservedOp b) = .packet [b] := by
  have hb := b.isLt
  unfold reservedOp
  split_ifs with h8 h16 h32 h64 <;> refine congrArg (Encoding.packet [·]) (append_extractLsb'_of_div ?_)
  · exact h8
  · exact h16
  · exact h32
  · exact h64
  · change b.toNat / 128 = 1
    omega

/-- Settles O6: by the packet's opcode; operand fields are read as they were written, and a reserved opcode falls in its
own range. -/
theorem commandPacketsRoundTrip : Obligations.CommandPacketsRoundTrip := by
  unfold Obligations.CommandPacketsRoundTrip
  intro i bs rest hwf h
  cases i
  case construct w hgt ct q =>
    cases h
    exact decodeConfig_configFields .construct w hgt ct q rest
  case encodeStrip rows =>
    cases h
    exact decodeStrip_countField (of_decide_eq_true hwf) rest
  case headerBytes w hgt ct q =>
    cases h
    exact decodeConfig_configFields .headerBytes w hgt ct q rest
  case finish | takeOutput | footerBytes | dispose | reservedOp00 =>
    cases h
    rfl
  case reservedOp08 low | reservedOp10 low | reservedOp20 low | reservedOp40 low | reservedOp80 low =>
    cases h
    refine (decode_of_eight_le ?_ rest).trans ?_
    · simp only [toNat_append_add, BitVec.toNat_ofNat]
      omega
    · simp (disch := omega) only [reservedOp, toNat_append_add, BitVec.toNat_ofNat, if_neg, if_pos,
        BitVec.extractLsb'_append_eq_right]
  all_goals cases h

/-- Only the packets of opcodes 1, 2 and 5 have operand fields; every other byte is a whole packet (R90, R95). -/
theorem decode_cons_cases (op : Byte) (tail : List Byte) :
    op = 0x01#8 ∧ decode (op :: tail) = decodeConfig .construct tail ∨
    op = 0x02#8 ∧ decode (op :: tail) = decodeStrip tail ∨
    op = 0x05#8 ∧ decode (op :: tail) = decodeConfig .headerBytes tail ∨
    ∃ i, encode i = .packet [op] ∧ decode (op :: tail) = .packet i tail := by
  by_cases hreserved : 8 ≤ op.toNat
  · exact .inr (.inr (.inr ⟨_, encode_reservedOp hreserved, decode_of_eight_le hreserved tail⟩))
  have hop : op = 0x01#8 ∨ op = 0x02#8 ∨ op = 0x05#8 ∨
      op = 0x00#8 ∨ op = 0x03#8 ∨ op = 0x04#8 ∨ op = 0x06#8 ∨ op = 0x07#8 := by bv_omega
  rcases hop with rfl | rfl | rfl | hplain
  · exact .inl ⟨rfl, rfl⟩
  · exact .inr (.inl ⟨rfl, rfl⟩)
  · exact .inr (.inr (.inl ⟨rfl, rfl⟩))
  · rcases hplain with rfl | rfl | rfl | rfl | rfl <;> exact .inr (.inr (.inr ⟨_, rfl, rfl⟩))

/-- The bytes taken are the packet of what is read. -/
theorem encode_of_decode {bs rest : List Byte} {i : Instr} (h : decode bs = .packet i rest) :
    ∃ p, encode i = .packet p ∧ bs = p ++ rest := by
  cases bs with
  | nil => cases h
  | cons op tail =>
    obtain ⟨rfl, hd⟩ | ⟨rfl, hd⟩ | ⟨rfl, hd⟩ | ⟨j, hj, hd⟩ := decode_cons_cases op tail <;> rw [hd] at h
    · obtain ⟨w, hgt, ct, q, rfl, rfl⟩ := decodeConfig_eq_packet h
      exact ⟨_, rfl, rfl⟩
    · obtain ⟨rows, rfl, rfl⟩ := decodeStrip_eq_packet h
      exact ⟨_, rfl, rfl⟩
    · obtain ⟨w, hgt, ct, q, rfl, rfl⟩ := decodeConfig_eq_packet h
      exact ⟨_, rfl, rfl⟩
    · cases h
      exact ⟨_, hj, rfl⟩

/-- Settles O5: what is decoded is well formed, and its encoding is the bytes taken. -/
theorem decodedPacketsAreWhole : Obligations.DecodedPacketsAreWhole := by
  unfold Obligations.DecodedPacketsAreWhole
  exact fun _ _ _ h => ⟨decode_wf h, encode_of_decode h⟩

theorem decodeConfig_ne_idle (mk : Quad → Quad → Byte → Byte → Instr) (bs : List Byte) :
    decodeConfig mk bs ≠ .idle := by
  unfold decodeConfig
  split <;> simp

theorem decodeStrip_ne_idle (bs : List Byte) : decodeStrip bs ≠ .idle := by
  unfold decodeStrip
  split
  · dsimp only
    split <;> simp
  · simp

theorem decode_cons_ne_idle (op : Byte) (tail : List Byte) : decode (op :: tail) ≠ .idle := by
  obtain ⟨-, hd⟩ | ⟨-, hd⟩ | ⟨-, hd⟩ | ⟨j, -, hd⟩ := decode_cons_cases op tail <;> rw [hd]
  · exact decodeConfig_ne_idle _ _
  · exact decodeStrip_ne_idle _
  · exact decodeConfig_ne_idle _ _
  · exact Fetch.noConfusion

/-- Settles O7: a packet read from a part would, by the round trip, also be read from the whole, and leave bytes that
the whole packet does not. -/
theorem shortPacketsAreNotCommands : Obligations.ShortPacketsAreNotCommands := by
  unfold Obligations.ShortPacketsAreNotCommands
  intro i bs n hwf h hpos hlt
  cases hd : decode (bs.take n) with
  | notWhole => rfl
  | idle =>
    cases htake : bs.take n with
    | nil =>
      rcases List.take_eq_nil_iff.mp htake with rfl | rfl
      · exact absurd hpos (lt_irrefl 0)
      · exact absurd hlt (Nat.not_lt_zero n)
    | cons op tail => exact absurd (htake ▸ hd) (decode_cons_ne_idle op tail)
  | packet j rest =>
    obtain ⟨p, hp, htake⟩ := encode_of_decode hd
    have hbs : bs ++ [] = p ++ (rest ++ bs.drop n) := by
      rw [← List.append_assoc, ← htake, List.take_append_drop, List.append_nil]
    have hwhole := commandPacketsRoundTrip i bs [] hwf h
    rw [hbs, commandPacketsRoundTrip j p _ (decode_wf hd) hp] at hwhole
    simp only [Fetch.packet.injEq, List.append_eq_nil_iff, List.drop_eq_nil_iff] at hwhole
    omega

end Sys2Proof.Machine
end

section
/-! SUPPORT. The other code spaces: `decodeResponse`, `decodeColor` and `decodeSegment` read what `encode` writes, and
the reserved values of `color_type` by the ranges that hold them (R92 to R95, R98, R101). -/

namespace Sys2Proof.Machine

theorem decodeResponse_encode {i : Instr} {bs : List Byte} (hwf : i.wf = true) (h : encode i = .response bs) :
    decodeResponse bs = some i := by
  cases i
  case statusOk bytes =>
    cases h
    simp only [countField, be32, List.cons_append, List.nil_append, decodeResponse, quadOf_extractLsb',
      BitVec.toNat_ofNat, Nat.mod_eq_of_lt (of_decide_eq_true hwf)]
    simp
  case statusInvalidDimension | statusInvalidQuality | statusMalformedStripLength | statusRowOverflow |
      statusIncompleteImage | statusEncoderFinished | statusInvalidColorType | statusNotConstructed |
      statusIllegalCommand =>
    cases h
    rfl
  all_goals cases h

/-- The reserved row of a `color_type` from 9 up. -/
def reservedColor (b : Byte) : Instr :=
  if b.toNat = 9 then .reservedColor09
  else if b.toNat / 2 = 5 then .reservedColor0A (b.extractLsb' 0 1)
  else if b.toNat / 4 = 3 then .reservedColor0C (b.extractLsb' 0 2)
  else if b.toNat / 16 = 1 then .reservedColor10 (b.extractLsb' 0 4)
  else if b.toNat / 32 = 1 then .reservedColor20 (b.extractLsb' 0 5)
  else if b.toNat / 64 = 1 then .reservedColor40 (b.extractLsb' 0 6)
  else .reservedColor80 (b.extractLsb' 0 7)

theorem decodeColor_of_eight_lt {b : Byte} (h : 8 < b.toNat) : decodeColor b [] = some (reservedColor b) := by
  have hne : ∀ c : Byte, c.toNat ≤ 8 → b ≠ c := by
    rintro c hc rfl
    omega
  have hnine : b = 0x09#8 ↔ b.toNat = 9 := BitVec.toNat_inj.symm
  simp only [decodeColor, hnine, and_FE_eq_iff, and_FC_eq_iff, and_F0_eq_iff, and_E0_eq_iff, and_C0_eq_iff,
    reservedColor]
  iterate 9 rw [if_neg (hne _ (by decide))]
  rw [if_neg (not_not.mpr rfl)]
  split_ifs <;> rfl

theorem exec_reservedColor (b : Byte) (s : State) :
    exec (reservedColor b) s = .next (s.reject .invalidColorType) := by
  unfold reservedColor
  split_ifs <;> rfl

theorem decodeColor_encode {i : Instr} {ct : Byte} {pixel : List Byte} (h : encode i = .color ct pixel) :
    decodeColor ct pixel = some i := by
  cases i
  case cvtLuma | cvtRgb | cvtRgba | cvtBgr | cvtBgra | cvtYcbcr | cvtCmyk | cvtCmykAsYcck | cvtYcck |
      reservedColor09 =>
    cases h
    rfl
  case reservedColor0A low | reservedColor0C low | reservedColor10 low | reservedColor20 low | reservedColor40 low |
      reservedColor80 low =>
    cases h
    refine (decodeColor_of_eight_lt ?_).trans (congrArg some ?_)
    · simp only [toNat_append_add, BitVec.toNat_ofNat]
      omega
    · simp (disch := omega) only [reservedColor, toNat_append_add, BitVec.toNat_ofNat, if_neg, if_pos,
        BitVec.extractLsb'_append_eq_right]
  all_goals cases h

theorem decodeSegment_encode {i : Instr} {bs : List Byte} (h : encode i = .segment bs) :
    decodeSegment bs = some i := by
  cases i
  case writeSoi | writeApp0 | writeApp14 | writeSof0 | writeSos | writeEoi =>
    cases h
    rfl
  case writeDqt t =>
    cases h
    revert t
    decide
  case writeDht cls t =>
    cases h
    revert cls t
    decide
  all_goals cases h

/-- Settles O8: each code space by its own reader. -/
theorem otherCodesReadBack : Obligations.OtherCodesReadBack := by
  unfold Obligations.OtherCodesReadBack
  exact fun _ hwf =>
    ⟨fun _ => decodeResponse_encode hwf, fun _ _ => decodeColor_encode, fun _ => decodeSegment_encode⟩

/-- Settles O30: the reader gives `reservedColor`, whose cases are R95's ranges. -/
theorem reservedColorTypesRejected : Obligations.ReservedColorTypesRejected := by
  unfold Obligations.ReservedColorTypesRejected
  intro s
  refine ⟨fun ct hct => ⟨reservedColor ct, decodeColor_of_eight_lt hct, exec_reservedColor ct s, ?_⟩,
    rfl, fun _ => rfl, fun _ => rfl, fun _ => rfl, fun _ => rfl, fun _ => rfl, fun _ => rfl⟩
  have hlow : ∀ k, (ct.extractLsb' 0 k).toNat = ct.toNat % 2 ^ k := fun k => by
    rw [BitVec.extractLsb'_toNat, Nat.shiftRight_zero]
  have hlt := ct.isLt
  unfold reservedColor
  split_ifs with h9 hA hC h10 h20 h40
  · exact .inl ⟨h9, rfl⟩
  · exact .inr (.inl ⟨_, by rw [hlow]; omega, rfl⟩)
  · exact .inr (.inr (.inl ⟨_, by rw [hlow]; omega, rfl⟩))
  · exact .inr (.inr (.inr (.inl ⟨_, by rw [hlow]; omega, rfl⟩)))
  · exact .inr (.inr (.inr (.inr (.inl ⟨_, by rw [hlow]; omega, rfl⟩))))
  · exact .inr (.inr (.inr (.inr (.inr (.inl ⟨_, by rw [hlow]; omega, rfl⟩)))))
  · exact .inr (.inr (.inr (.inr (.inr (.inr ⟨_, by rw [hlow]; omega, rfl⟩)))))

end Sys2Proof.Machine
end

section
/-! SUPPORT. The Huffman codes read back (R120, R122): the reader stops at a code's last bit, and each listed code is
the canonical code of its symbol (R232, R233). -/

namespace Sys2Proof.Machine

/-- Bits after a code are left alone. -/
theorem readCode_append {counts : List Nat} {first k c j : Nat} {bits rest : List Bool}
    (h : readCode counts first k c bits = some (j, rest)) (more : List Bool) :
    readCode counts first k c (bits ++ more) = some (j, rest ++ more) := by
  induction counts generalizing first k c bits with
  | nil => simp [readCode] at h
  | cons n counts ih =>
    cases bits with
    | nil => simp [readCode] at h
    | cons b bits =>
      simp only [readCode, List.cons_append] at h ⊢
      split_ifs at h ⊢
      · cases h
        rfl
      · exact ih h

theorem decodeHuff_append {t : HuffId} {i : Instr} {bits rest : List Bool} (h : decodeHuff t bits = some (i, rest))
    (more : List Bool) : decodeHuff t (bits ++ more) = some (i, rest ++ more) := by
  unfold decodeHuff at h
  split at h
  next k left hread =>
    obtain ⟨j, hj, heq⟩ := Option.map_eq_some_iff.mp h
    cases heq
    simp [decodeHuff, readCode_append hread more, hj]
  next => cases h

/-- Row by row of the listing, the reader takes exactly the bits of the code (R233). -/
theorem decodeHuff_of_encode {i : Instr} {t : HuffId} {v n : Nat} (h : encode i = .code t v n) :
    decodeHuff t (bitsMsb v n) = some (i, []) := by
  cases i <;> cases h <;> rfl

/-- Settles O9: a code is read alone, and the bits after it are left. -/
theorem huffmanCodesReadBack : Obligations.HuffmanCodesReadBack := by
  unfold Obligations.HuffmanCodesReadBack
  exact fun _ _ _ _ bits h => decodeHuff_append (decodeHuff_of_encode h) bits

end Sys2Proof.Machine
end

section
/-! SUPPORT. A legal configuration passes the tests of CONSTRUCT and HEADER_BYTES (R141, R145), what TAKE_OUTPUT drains
after it (R144), and the responses of a sequence of commands. -/

namespace Sys2Proof.Machine

@[simp] theorem ColorType.ofCode_code (c : ColorType) : ColorType.ofCode c.code = some c := by
  cases c <;> rfl

/-- A legal configuration passes CONSTRUCT's tests. -/
theorem checkConfig_of_legal {w h : Quad} {ct q : Byte} {c : ColorType} (hc : LegalConfig w h ct q c) :
    checkConfig w h ct q = .ok c := by
  obtain ⟨hw, hw', hh, hh', hq, hq', rfl⟩ := hc
  simp (disch := omega) only [checkConfig, Config.maxDimension, Config.maxQuality, if_neg, ColorType.ofCode_code]

theorem exec_construct_of_legal {w h : Quad} {ct q : Byte} {c : ColorType} (hc : LegalConfig w h ct q c) (s : State) :
    exec (.construct w h ct q) s = .next (s.construct (w.setWidth 16) (h.setWidth 16) c (q.setWidth 7)) := by
  change execConstruct w h ct q s = _
  rw [execConstruct, checkConfig_of_legal hc]
  rfl

theorem exec_headerBytes_of_legal {w h : Quad} {ct q : Byte} {c : ColorType} (hc : LegalConfig w h ct q c)
    (s : State) : exec (.headerBytes w h ct q) s =
      .next (s.respond (headerBytes (w.setWidth 16) (h.setWidth 16) c q.toNat)) := by
  change execHeaderBytes w h ct q s = _
  rw [execHeaderBytes, checkConfig_of_legal hc]

@[simp] theorem State.construct_lifecycle (s : State) (w h : Half) (ct : ColorType) (q : BitVec 7) :
    (s.construct w h ct q).lifecycle = .fresh := rfl

@[simp] theorem State.construct_out (s : State) (w h : Half) (ct : ColorType) (q : BitVec 7) :
    (s.construct w h ct q).out = headerBytes w h ct q.toNat := by
  unfold State.construct
  rw [State.writeHeader_configure]
  rfl

@[simp] theorem State.respond_responseBytes (s : State) (bytes : List Byte) : (s.respond bytes).responseBytes = bytes :=
  rfl

@[simp] theorem State.construct_responseBytes (s : State) (w h : Half) (ct : ColorType) (q : BitVec 7) :
    (s.construct w h ct q).responseBytes = [] := rfl

@[simp] theorem State.respondDrain_responseBytes (s : State) : s.respondDrain.responseBytes = s.out := rfl

/-- TAKE_OUTPUT is refused in Unconfigured only (R144). -/
theorem exec_takeOutput_of_configured {s : State} (h : s.lifecycle ≠ .unconfigured) :
    exec .takeOutput s = .next s.respondDrain := by
  change execTakeOutput s = _
  unfold execTakeOutput State.takeGate
  cases hl : s.lifecycle with
  | unconfigured => exact absurd hl h
  | fresh | active | finished => rfl

theorem runCommands_nil (s : State) : runCommands [] s = some (s, []) := rfl

theorem runCommands_cons {i : Instr} {is : List Instr} {s t u : State} {bytes : List Byte}
    (hfirst : exec i s = .next t) (hrest : runCommands is t = some (u, bytes)) :
    runCommands (i :: is) s = some (u, t.responseBytes ++ bytes) := by
  simp [runCommands, hfirst, hrest]

/-- Settles O14: CONSTRUCT leaves HEADER of the configuration in OUT, the first drain returns it, and the second finds
OUT empty. -/
theorem freshOutputIsHeader : Obligations.FreshOutputIsHeader := by
  unfold Obligations.FreshOutputIsHeader
  intro s w h ct q c hc
  have hquality : (q.setWidth 7).toNat = q.toNat := by
    obtain ⟨-, -, -, -, -, hq, -⟩ := hc
    rw [BitVec.toNat_setWidth, Nat.mod_eq_of_lt (by omega)]
  have hconstruct := exec_construct_of_legal hc s
  have hdrain := exec_takeOutput_of_configured
    (s := s.construct (w.setWidth 16) (h.setWidth 16) c (q.setWidth 7)) (by simp)
  have hagain := exec_takeOutput_of_configured
    (s := (s.construct (w.setWidth 16) (h.setWidth 16) c (q.setWidth 7)).respondDrain) (by simp)
  have hheader := runCommands_cons (exec_headerBytes_of_legal hc s) (runCommands_nil _)
  have honce := runCommands_cons hconstruct (runCommands_cons hdrain (runCommands_nil _))
  have htwice := runCommands_cons hconstruct (runCommands_cons hdrain (runCommands_cons hagain (runCommands_nil _)))
  simp only [State.respond_responseBytes, State.construct_responseBytes, State.respondDrain_responseBytes,
    State.construct_out, State.respondDrain_out, hquality, List.nil_append, List.append_nil] at hheader honce htwice
  exact ⟨_, _, _, _, hheader, honce, htwice⟩

end Sys2Proof.Machine
end

section
/-! SUPPORT. Literal words of the opcode table, and the status rows (R92, R93). -/

namespace Sys2Proof.Machine

/-- Settles O10: each word is a literal, and its packet is decoded by evaluation. -/
theorem tableWordsDecode : Obligations.TableWordsDecode := by
  unfold Obligations.TableWordsDecode
  decide

/-- Settles O31: each status row gives its response, whose serialisation is by definition the row's words. -/
theorem statusesAreResponses : Obligations.StatusesAreResponses := by
  unfold Obligations.StatusesAreResponses
  intro s
  refine ⟨fun _ => rfl, rfl, rfl, rfl, rfl, rfl, rfl, rfl, rfl, rfl, fun i bs t r hrow hexec hresponse => ?_⟩
  cases i
  case statusOk | statusInvalidDimension | statusInvalidQuality | statusMalformedStripLength | statusRowOverflow |
      statusIncompleteImage | statusEncoderFinished | statusInvalidColorType | statusNotConstructed |
      statusIllegalCommand =>
    cases hrow
    cases hexec
    cases hresponse
    rfl
  all_goals cases hrow

end Sys2Proof.Machine
end

section
/-! SUPPORT. The host commands' answers: for each command, the tests it makes and the state it leaves (R141 to R148). -/

namespace Sys2Proof.Machine

/-! ## Reserved opcodes (R148) -/

theorem exec_reservedOp (b : Byte) (s : State) : exec (reservedOp b) s = .next (s.reject .illegalCommand) := by
  unfold reservedOp
  split_ifs <;> rfl

theorem decode_zero (tail : List Byte) : decode (0 :: tail) = .packet .reservedOp00 tail := rfl

/-- Settles O11: a byte 0x00 or from 8 up is a packet of its own, whose instruction is refused. -/
theorem reservedOpcodesAnswerIllegal : Obligations.ReservedOpcodesAnswerIllegal := by
  unfold Obligations.ReservedOpcodesAnswerIllegal
  intro s
  refine ⟨fun op rest hop hin => ?_, rfl, fun _ => rfl, fun _ => rfl, fun _ => rfl, fun _ => rfl, fun _ => rfl⟩
  obtain rfl | hop := hop
  · rw [step_of_packet (hin ▸ decode_zero rest)]
    rfl
  · rw [step_of_packet (hin ▸ decode_of_eight_le hop rest), exec_reservedOp]
    rfl

/-! ## The configuration operands (R141, R145) -/

section
variable {w h : Quad} {ct q : Byte}

theorem checkConfig_invalidDimension (hdim : w = 0 ∨ h = 0 ∨ 65535 < w.toNat ∨ 65535 < h.toNat) :
    checkConfig w h ct q = .error .invalidDimension := by
  refine if_pos ?_
  rcases hdim with rfl | rfl | hw | hh
  · exact .inl rfl
  · exact .inr (.inl rfl)
  · exact .inr (.inr (.inl hw))
  · exact .inr (.inr (.inr hh))

theorem checkConfig_invalidQuality (hw : 1 ≤ w.toNat) (hw' : w.toNat ≤ 65535) (hh : 1 ≤ h.toNat)
    (hh' : h.toNat ≤ 65535) (hq : q = 0 ∨ 100 < q.toNat) : checkConfig w h ct q = .error .invalidQuality := by
  have hq' : q.toNat < 1 ∨ q.toNat > 100 := hq.imp_left fun h0 => by simp [h0]
  simp (disch := omega) only [checkConfig, Config.maxDimension, Config.maxQuality, if_neg, if_pos]

theorem ColorType.ofCode_eq_none {b : Byte} (hb : 8 < b.toNat) : ColorType.ofCode b = none := by
  have hne : ∀ c : Byte, c.toNat ≤ 8 → b ≠ c := by
    rintro c hc rfl
    omega
  unfold ColorType.ofCode
  iterate 9 rw [if_neg (hne _ (by decide))]

theorem checkConfig_invalidColorType (hw : 1 ≤ w.toNat) (hw' : w.toNat ≤ 65535) (hh : 1 ≤ h.toNat)
    (hh' : h.toNat ≤ 65535) (hq : 1 ≤ q.toNat) (hq' : q.toNat ≤ 100) (hct : 8 < ct.toNat) :
    checkConfig w h ct q = .error .invalidColorType := by
  simp (disch := omega) only [checkConfig, Config.maxDimension, Config.maxQuality, if_neg, ColorType.ofCode_eq_none]

theorem checkConfig_error_mem {st : Status} (herr : checkConfig w h ct q = .error st) :
    st ∈ [.invalidDimension, .invalidQuality, .invalidColorType] := by
  unfold checkConfig at herr
  split_ifs at herr
  · cases herr
    simp
  · cases herr
    simp
  · split at herr <;> cases herr
    simp

theorem exec_construct_of_error {st : Status} (herr : checkConfig w h ct q = .error st) (s : State) :
    exec (.construct w h ct q) s = .next (s.reject st) := by
  change execConstruct w h ct q s = _
  rw [execConstruct, herr]

theorem exec_headerBytes_of_error {st : Status} (herr : checkConfig w h ct q = .error st) (s : State) :
    exec (.headerBytes w h ct q) s = .next (s.reject st) := by
  change execHeaderBytes w h ct q s = _
  rw [execHeaderBytes, herr]

theorem LegalConfig.setWidth_quality {c : ColorType} (hc : LegalConfig w h ct q c) :
    (q.setWidth 7).toNat = q.toNat := by
  obtain ⟨-, -, -, -, -, hq, -⟩ := hc
  rw [BitVec.toNat_setWidth, Nat.mod_eq_of_lt (by omega)]

end

/-- CONSTRUCT's state, with HEADER of the configuration in OUT. -/
theorem State.construct_eq (s : State) (w h : Half) (ct : ColorType) (q : BitVec 7) :
    s.construct w h ct q =
      (((s.configure w h ct q).withOut (headerBytes w h ct q.toNat)).withLifecycle .fresh).respond [] := by
  rw [State.construct, State.writeHeader_configure]

/-- Settles O12: the three tests in order, then the registers as `State.configure` has them, and HEADER in OUT. -/
theorem constructEffect : Obligations.ConstructEffect := by
  unfold Obligations.ConstructEffect
  intro s w h ct q
  refine ⟨fun hdim => ?_, fun hw hw' hh hh' => ⟨fun hq => ?_, fun hq hq' hct => ?_, fun c hq hq' hct => ?_⟩⟩
  · exact exec_construct_of_error (checkConfig_invalidDimension hdim) s
  · exact exec_construct_of_error (checkConfig_invalidQuality hw hw' hh hh' hq) s
  · exact exec_construct_of_error (checkConfig_invalidColorType hw hw' hh hh' hq hq' hct) s
  · have hc : LegalConfig w h ct q c := ⟨hw, hw', hh, hh', hq, hq', hct⟩
    rw [exec_construct_of_legal hc, State.construct_eq, State.configure, hc.setWidth_quality]
    simp only [BitVec.ofNat_toNat]
    rfl

/-- Settles O13: the tests of CONSTRUCT, then HEADER of the operands in the response only. -/
theorem headerBytesEffect : Obligations.HeaderBytesEffect := by
  unfold Obligations.HeaderBytesEffect
  intro s w h ct q
  refine ⟨fun hdim => ?_, fun hw hw' hh hh' => ⟨fun hq => ?_, fun hq hq' hct => ?_, fun c hq hq' hct => ?_⟩⟩
  · exact exec_headerBytes_of_error (checkConfig_invalidDimension hdim) s
  · exact exec_headerBytes_of_error (checkConfig_invalidQuality hw hw' hh hh' hq) s
  · exact exec_headerBytes_of_error (checkConfig_invalidColorType hw hw' hh hh' hq hq' hct) s
  · rw [exec_headerBytes_of_legal ⟨hw, hw', hh, hh', hq, hq', hct⟩]
    simp only [BitVec.ofNat_toNat]
    rfl

/-! ## TAKE_OUTPUT, FOOTER_BYTES, DISPOSE (R144, R146, R147) -/

theorem exec_takeOutput_of_unconfigured {s : State} (h : s.lifecycle = .unconfigured) :
    exec .takeOutput s = .next (s.reject .notConstructed) := by
  change execTakeOutput s = _
  rw [execTakeOutput, State.takeGate, h]

/-- Settles O17: the lifecycle alone decides between the refusal and the drain. -/
theorem takeOutputEffect : Obligations.TakeOutputEffect := by
  unfold Obligations.TakeOutputEffect
  exact fun s => ⟨exec_takeOutput_of_unconfigured, exec_takeOutput_of_configured⟩

theorem exec_footerBytes (s : State) : exec .footerBytes s = .next (s.respond eoiBytes) := rfl

/-- Settles O18: the response is EOI. -/
theorem footerBytesConstant : Obligations.FooterBytesConstant := by
  unfold Obligations.FooterBytesConstant
  exact exec_footerBytes

theorem exec_dispose (s : State) : exec .dispose s = .next s.dispose := rfl

/-- Settles O19: DISPOSE's state is the power-on state with the host's queue and the result port kept. -/
theorem disposeReturnsToPowerOn : Obligations.DisposeReturnsToPowerOn := by
  unfold Obligations.DisposeReturnsToPowerOn
  exact exec_dispose

/-! ## ENCODE_STRIP (R142) -/

theorem State.encodeGate_some_iff {s : State} {st : Status} :
    s.encodeGate = some st ↔
      (s.lifecycle = .unconfigured ∧ st = .notConstructed) ∨
        (s.lifecycle = .finished ∧ st = .encoderFinished) := by
  unfold State.encodeGate
  cases s.lifecycle <;> simp [eq_comm]

theorem State.encodeGate_of_unconfigured {s : State} (h : s.lifecycle = .unconfigured) :
    s.encodeGate = some .notConstructed := State.encodeGate_some_iff.mpr (.inl ⟨h, rfl⟩)

theorem State.encodeGate_of_finished {s : State} (h : s.lifecycle = .finished) :
    s.encodeGate = some .encoderFinished := State.encodeGate_some_iff.mpr (.inr ⟨h, rfl⟩)

section
variable {s : State} {rows : List Byte}

theorem exec_encodeStrip_of_gated {st : Status} (hgate : s.encodeGate = some st) :
    exec (.encodeStrip rows) s = .next (s.reject st) := by
  change execEncodeStrip rows s = _
  rw [execEncodeStrip, hgate]

theorem exec_encodeStrip_of_malformed (hgate : s.encodeGate = none) (hlen : rows.length % s.stride ≠ 0) :
    exec (.encodeStrip rows) s = .next (s.reject .malformedStripLength) := by
  change execEncodeStrip rows s = _
  rw [execEncodeStrip, hgate]
  exact if_pos hlen

theorem exec_encodeStrip_of_overflow (hgate : s.encodeGate = none) (hlen : rows.length % s.stride = 0)
    (hover : s.height.toNat < s.rowsReceived + rows.length / s.stride) :
    exec (.encodeStrip rows) s = .next (s.reject .rowOverflow) := by
  change execEncodeStrip rows s = _
  rw [execEncodeStrip, hgate]
  exact (if_neg (not_not.mpr hlen)).trans (if_pos hover)

theorem exec_encodeStrip_of_fits (hgate : s.encodeGate = none) (hlen : rows.length % s.stride = 0)
    (hfits : s.rowsReceived + rows.length / s.stride ≤ s.height.toNat) :
    exec (.encodeStrip rows) s = .next (s.takeStrip rows) := by
  change execEncodeStrip rows s = _
  rw [execEncodeStrip, hgate]
  exact (if_neg (not_not.mpr hlen)).trans (if_neg (Nat.not_lt.mpr hfits))

theorem exec_appendRows_of_le {n : Nat} (hlen : n * s.stride ≤ rows.length) :
    exec (.appendRows rows n) s = .next (s.appendRows rows n) := if_pos hlen

end

theorem ColorType.bpp_pos (c : ColorType) : 0 < c.bpp := by cases c <;> decide

/-- Settles O15: the gate, the two tests on the strip's length, then APPEND_ROWS of its whole rows. -/
theorem encodeStripEffect : Obligations.EncodeStripEffect := by
  unfold Obligations.EncodeStripEffect
  intro s rows
  refine ⟨fun hl => ?_, fun hl => ?_, fun hl => ?_⟩
  · exact exec_encodeStrip_of_gated (State.encodeGate_of_unconfigured hl)
  · exact exec_encodeStrip_of_gated (State.encodeGate_of_finished hl)
  have hgate := State.encodeGate_none_iff.mpr hl
  refine ⟨exec_encodeStrip_of_malformed hgate, fun n hn hw => ?_⟩
  change rows.length = n * s.stride at hn
  have hwhole : rows.length % s.stride = 0 := by rw [hn, Nat.mul_mod_left]
  have hstride : 0 < s.stride := Nat.mul_pos hw s.colorType.bpp_pos
  have hcount : rows.length / s.stride = n := by rw [hn, Nat.mul_div_cancel _ hstride]
  refine ⟨fun hover => exec_encodeStrip_of_overflow hgate hwhole (hcount ▸ hover), fun hfits =>
    ⟨_, exec_appendRows_of_le hn.ge, ?_⟩⟩
  rw [exec_encodeStrip_of_fits hgate hwhole (hcount ▸ hfits), State.takeStrip, hcount]
  rfl

/-! ## FINISH (R143) -/

section
variable {s : State}

theorem exec_finish_of_gated {st : Status} (hgate : s.encodeGate = some st) :
    exec .finish s = .next (s.reject st) := by
  change execFinish s = _
  rw [execFinish, hgate]

theorem exec_finish_of_incomplete (hgate : s.encodeGate = none) (hrows : s.rowsReceived < s.height.toNat) :
    exec .finish s = .next (s.reject .incompleteImage) := by
  change execFinish s = _
  rw [execFinish, hgate]
  exact if_pos hrows

theorem exec_finish_of_complete (hgate : s.encodeGate = none) (hall : s.height.toNat ≤ s.rowsReceived) :
    exec .finish s = .next s.closeStream := by
  change execFinish s = _
  rw [execFinish, hgate]
  exact if_neg (Nat.not_lt.mpr hall)

theorem exec_padBand_of_pending (hpos : 1 ≤ s.pending.length) (hle : s.pending.length ≤ 7) :
    exec .padBand s = .next s.padBand := if_pos ⟨hpos, hle⟩

theorem exec_band_of_full (hfull : s.pending.length = 8) : exec .band s = .next s.band := if_pos hfull

theorem exec_flush_of_held (hbits : s.bitbuf.length ≤ 7) : exec .flush s = .next s.flush :=
  if_pos (Coder.flush_bitbuf (k := s.coder) hbits)

theorem runInstrs_cons {i : Instr} {is : List Instr} {t : State} (hfirst : exec i s = .next t) :
    runInstrs (i :: is) s = runInstrs is t := by
  simp [runInstrs, hfirst]

/-- FLUSH and WRITE_EOI end the stream. -/
theorem runInstrs_flush_eoi (hbits : s.bitbuf.length ≤ 7) :
    runInstrs [.flush, .writeEoi] s = some s.flush.writeEoi := by
  rw [runInstrs_cons (exec_flush_of_held hbits)]
  rfl

/-- The last band is PAD_BAND and BAND, if rows are pending. -/
theorem runInstrs_lastBand (hpend : s.pending.length ≤ 7) (is : List Instr) :
    runInstrs ((if s.pending = [] then [] else [.padBand, .band]) ++ is) s = runInstrs is s.lastBand := by
  unfold State.lastBand
  by_cases hnil : s.pending = []
  · simp [hnil]
  · have hpos := List.length_pos_iff.mpr hnil
    rw [if_neg hnil, if_pos hpos, List.cons_append, runInstrs_cons (exec_padBand_of_pending hpos hpend),
      List.cons_append, runInstrs_cons (exec_band_of_full (s.padBand_length (by omega))), List.nil_append]

theorem State.lastBand_bitbuf_length (hbits : s.bitbuf.length ≤ 7) : s.lastBand.bitbuf.length ≤ 7 := by
  obtain ⟨k, hk, heq⟩ := s.lastBand_eq
  rw [heq]
  exact hk.1 hbits

end

/-- Settles O16: the gate, the count of rows, then the operations one after another, none of which faults. -/
theorem finishEffect : Obligations.FinishEffect := by
  unfold Obligations.FinishEffect
  intro s
  refine ⟨fun hl => ?_, fun hl => ?_, fun hl => ?_⟩
  · exact exec_finish_of_gated (State.encodeGate_of_unconfigured hl)
  · exact exec_finish_of_gated (State.encodeGate_of_finished hl)
  have hgate := State.encodeGate_none_iff.mpr hl
  refine ⟨exec_finish_of_incomplete hgate, fun hall hpend hbits => ⟨s.lastBand.flush.writeEoi, ?_, ?_⟩⟩
  · rw [runInstrs_lastBand hpend, runInstrs_flush_eoi (State.lastBand_bitbuf_length hbits)]
  · rw [exec_finish_of_complete hgate hall]
    rfl

end Sys2Proof.Machine
end

section
/-! SUPPORT. The lifecycle table (R140): the status of each command's answer, and the lifecycle after it. -/

namespace Sys2Proof.Machine

/-- A command that rejects gives its status, and keeps the lifecycle. -/
theorem answer_of_reject {i : Instr} {s t : State} {r : Response} {st : Status} (hr : t.response = some r)
    (ht : exec i s = .next t) (hreject : exec i s = .next (s.reject st)) :
    r.status = st ∧ t.lifecycle = s.lifecycle := by
  rw [hreject] at ht
  cases ht
  cases hr
  exact ⟨rfl, rfl⟩

section
variable {s t : State} {r : Response} (hr : t.response = some r)
include hr

theorem construct_lifecycle {w h : Quad} {ct q : Byte} (ht : exec (.construct w h ct q) s = .next t) :
    (r.status = .ok ∧ t.lifecycle = .fresh) ∨
      (r.status ∈ [.invalidDimension, .invalidQuality, .invalidColorType] ∧ t.lifecycle = s.lifecycle) := by
  cases hcheck : checkConfig w h ct q with
  | error st =>
    obtain ⟨rfl, hl⟩ := answer_of_reject hr ht (exec_construct_of_error hcheck s)
    exact .inr ⟨checkConfig_error_mem hcheck, hl⟩
  | ok c =>
    rw [exec_construct_of_legal (checkConfig_legal hcheck)] at ht
    cases ht
    cases hr
    exact .inl ⟨rfl, rfl⟩

/-- The rows of ENCODE_STRIP and FINISH where their gate refuses. -/
theorem gated_lifecycle {i : Instr} {st : Status} (hgate : s.encodeGate = some st) (ht : exec i s = .next t)
    (hreject : exec i s = .next (s.reject st)) :
    (s.lifecycle = .unconfigured ∧ r.status = .notConstructed ∧ t.lifecycle = .unconfigured) ∨
      (s.lifecycle = .finished ∧ r.status = .encoderFinished ∧ t.lifecycle = .finished) := by
  obtain ⟨rfl, hl⟩ := answer_of_reject hr ht hreject
  exact (State.encodeGate_some_iff.mp hgate).imp (fun ⟨hs, hst⟩ => ⟨hs, hst, hl.trans hs⟩)
    fun ⟨hs, hst⟩ => ⟨hs, hst, hl.trans hs⟩

theorem encodeStrip_lifecycle {rows : List Byte} (ht : exec (.encodeStrip rows) s = .next t) :
    (s.lifecycle = .unconfigured ∧ r.status = .notConstructed ∧ t.lifecycle = .unconfigured) ∨
      (s.lifecycle = .finished ∧ r.status = .encoderFinished ∧ t.lifecycle = .finished) ∨
      (s.lifecycle ∈ [.fresh, .active] ∧ r.status = .ok ∧ t.lifecycle = .active) ∨
      (s.lifecycle ∈ [.fresh, .active] ∧ r.status ∈ [.malformedStripLength, .rowOverflow] ∧
        t.lifecycle = s.lifecycle) := by
  cases hgate : s.encodeGate with
  | some st =>
    have hrow := gated_lifecycle hr hgate ht (exec_encodeStrip_of_gated hgate)
    exact hrow.imp_right .inl
  | none =>
    have hs : s.lifecycle ∈ [.fresh, .active] := by simpa using State.encodeGate_none_iff.mp hgate
    by_cases hlen : rows.length % s.stride = 0
    · by_cases hfits : s.rowsReceived + rows.length / s.stride ≤ s.height.toNat
      · rw [exec_encodeStrip_of_fits hgate hlen hfits] at ht
        cases ht
        cases hr
        exact .inr (.inr (.inl ⟨hs, rfl, rfl⟩))
      · obtain ⟨hst, hl⟩ := answer_of_reject hr ht (exec_encodeStrip_of_overflow hgate hlen (by omega))
        exact .inr (.inr (.inr ⟨hs, by simp [hst], hl⟩))
    · obtain ⟨hst, hl⟩ := answer_of_reject hr ht (exec_encodeStrip_of_malformed hgate hlen)
      exact .inr (.inr (.inr ⟨hs, by simp [hst], hl⟩))

theorem finish_lifecycle (ht : exec .finish s = .next t) :
    (s.lifecycle = .unconfigured ∧ r.status = .notConstructed ∧ t.lifecycle = .unconfigured) ∨
      (s.lifecycle = .finished ∧ r.status = .encoderFinished ∧ t.lifecycle = .finished) ∨
      (s.lifecycle ∈ [.fresh, .active] ∧ r.status = .ok ∧ t.lifecycle = .finished) ∨
      (s.lifecycle ∈ [.fresh, .active] ∧ r.status = .incompleteImage ∧ t.lifecycle = s.lifecycle) := by
  cases hgate : s.encodeGate with
  | some st =>
    have hrow := gated_lifecycle hr hgate ht (exec_finish_of_gated hgate)
    exact hrow.imp_right .inl
  | none =>
    have hs : s.lifecycle ∈ [.fresh, .active] := by simpa using State.encodeGate_none_iff.mp hgate
    by_cases hall : s.height.toNat ≤ s.rowsReceived
    · rw [exec_finish_of_complete hgate hall] at ht
      cases ht
      cases hr
      exact .inr (.inr (.inl ⟨hs, rfl, rfl⟩))
    · obtain ⟨hst, hl⟩ := answer_of_reject hr ht (exec_finish_of_incomplete hgate (by omega))
      exact .inr (.inr (.inr ⟨hs, hst, hl⟩))

theorem takeOutput_lifecycle (ht : exec .takeOutput s = .next t) :
    t.lifecycle = s.lifecycle ∧ (s.lifecycle = .unconfigured → r.status = .notConstructed) ∧
      (s.lifecycle ≠ .unconfigured → r.status = .ok) ∧ (s.Inv → s.lifecycle = .finished → r.bytes = []) := by
  by_cases hs : s.lifecycle = .unconfigured
  · obtain ⟨hst, hl⟩ := answer_of_reject hr ht (exec_takeOutput_of_unconfigured hs)
    refine ⟨hl, fun _ => hst, fun hne => absurd hs hne, fun _ hfin => ?_⟩
    rw [hs] at hfin
    cases hfin
  · rw [exec_takeOutput_of_configured hs] at ht
    cases ht
    cases hr
    refine ⟨rfl, fun hun => absurd hun hs, fun _ => rfl, fun hinv hfin => ?_⟩
    obtain ⟨-, -, -, -, -, -, -, hfinished⟩ := hinv
    obtain ⟨-, -, -, hout⟩ := hfinished hfin
    exact hout

theorem headerBytes_lifecycle {w h : Quad} {ct q : Byte} (ht : exec (.headerBytes w h ct q) s = .next t) :
    t.lifecycle = s.lifecycle ∧ r.status ∈ [.ok, .invalidDimension, .invalidQuality, .invalidColorType] := by
  cases hcheck : checkConfig w h ct q with
  | error st =>
    obtain ⟨rfl, hl⟩ := answer_of_reject hr ht (exec_headerBytes_of_error hcheck s)
    exact ⟨hl, List.mem_cons_of_mem _ (checkConfig_error_mem hcheck)⟩
  | ok c =>
    rw [exec_headerBytes_of_legal (checkConfig_legal hcheck)] at ht
    cases ht
    cases hr
    exact ⟨rfl, List.mem_cons_self⟩

end

/-- Settles O21: command by command, from the tests each makes. -/
theorem lifecycleTable : Obligations.LifecycleTable := by
  unfold Obligations.LifecycleTable
  intro s t r hr
  refine ⟨fun _ _ _ _ => construct_lifecycle hr, fun _ => encodeStrip_lifecycle hr, finish_lifecycle hr,
    takeOutput_lifecycle hr, fun _ _ _ _ => headerBytes_lifecycle hr, fun ht => ?_, fun ht => ?_⟩
  · rw [exec_footerBytes] at ht
    cases ht
    cases hr
    exact ⟨rfl, rfl⟩
  · rw [exec_dispose] at ht
    cases ht
    cases hr
    exact ⟨rfl, rfl⟩

end Sys2Proof.Machine
end

section
/-! SUPPORT. The bit view of the coder (R110, R260): PUTBITS and all that is built of it append bits in one go. -/

namespace Sys2Proof.Machine

/-! ## Whole bytes and the bits left -/

theorem packBytes_of_short {x : List Bool} (h : x.length < 8) : packBytes x = [] := by
  unfold packBytes
  split
  · simp only [List.length_cons] at h
    omega
  · rfl

theorem leftBits_of_short {x : List Bool} (h : x.length < 8) : leftBits x = x := by
  simp [leftBits, Nat.div_eq_of_lt h]

theorem leftBits_length (x : List Bool) : (leftBits x).length = x.length % 8 := by
  simp [leftBits, Nat.mod_def]

theorem exists_eight {x : List Bool} (h : x.length = 8) :
    ∃ b0 b1 b2 b3 b4 b5 b6 b7, x = [b0, b1, b2, b3, b4, b5, b6, b7] :=
  match x, h with
  | [b0, b1, b2, b3, b4, b5, b6, b7], _ => ⟨b0, b1, b2, b3, b4, b5, b6, b7, rfl⟩

/-- The first eight bits are the first byte (R260). -/
theorem packBytes_append_of_eight {x : List Bool} (h : x.length = 8) (y : List Bool) :
    packBytes (x ++ y) = byteOfBits x :: packBytes y := by
  obtain ⟨b0, b1, b2, b3, b4, b5, b6, b7, rfl⟩ := exists_eight h
  simp only [List.cons_append, List.nil_append, packBytes, byteOfBits, List.foldl_cons, List.foldl_nil]
  congr 2
  omega

theorem leftBits_append_of_eight {x : List Bool} (h : x.length = 8) (y : List Bool) :
    leftBits (x ++ y) = leftBits y := by
  have hdiv : (x ++ y).length / 8 = y.length / 8 + 1 := by
    rw [List.length_append, h]
    omega
  rw [leftBits, hdiv, Nat.mul_succ, Nat.add_comm, ← h, List.drop_length_add_append, leftBits, h]

/-- Bits packed in two goes, by the whole bytes of the first. -/
theorem pack_append (x y : List Bool) :
    packBytes (x ++ y) = packBytes x ++ packBytes (leftBits x ++ y) ∧
      leftBits (x ++ y) = leftBits (leftBits x ++ y) := by
  induction hn : x.length using Nat.strong_induction_on generalizing x with
  | _ n ih =>
  by_cases hshort : x.length < 8
  · rw [packBytes_of_short hshort, leftBits_of_short hshort]
    exact ⟨rfl, rfl⟩
  · have hfull : (x.take 8).length = 8 := by
      rw [List.length_take]
      omega
    obtain ⟨hpack, hleft⟩ := ih (x.drop 8).length (by rw [List.length_drop]; omega) (x.drop 8) rfl
    rw [← List.take_append_drop 8 x, List.append_assoc, packBytes_append_of_eight hfull,
      packBytes_append_of_eight hfull, leftBits_append_of_eight hfull, leftBits_append_of_eight hfull, hpack, hleft]
    exact ⟨rfl, rfl⟩

@[simp] theorem stuff_append (x y : List Byte) : stuff (x ++ y) = stuff x ++ stuff y := List.flatMap_append

/-! ## Appending bits to the coder -/

@[simp] theorem Coder.pushBits_pred (k : Coder) (bits : List Bool) : (k.pushBits bits).pred = k.pred := rfl

theorem Coder.pushBits_bitbuf_length (k : Coder) (bits : List Bool) : (k.pushBits bits).bitbuf.length ≤ 7 := by
  change (leftBits _).length ≤ 7
  rw [leftBits_length]
  omega

theorem Coder.pushBits_nil {k : Coder} (h : k.bitbuf.length ≤ 7) : k.pushBits [] = k := by
  have hshort : k.bitbuf.length < 8 := by omega
  simp [Coder.pushBits, leftBits_of_short hshort, packBytes_of_short hshort, stuff]

theorem Coder.pushBits_pushBits (k : Coder) (a b : List Bool) : (k.pushBits a).pushBits b = k.pushBits (a ++ b) := by
  obtain ⟨hpack, hleft⟩ := pack_append (k.bitbuf ++ a) b
  simp only [Coder.pushBits, ← List.append_assoc, hpack, hleft, stuff_append]

theorem Coder.putBit_eq_pushBits {k : Coder} (h : k.bitbuf.length ≤ 7) (b : Bool) : k.putBit b = k.pushBits [b] := by
  unfold Coder.putBit
  split
  next hfull =>
    have hlen : (k.bitbuf ++ [b]).length = 8 := by simp [hfull]
    have hpack := packBytes_append_of_eight hlen []
    have hleft := leftBits_append_of_eight hlen []
    rw [List.append_nil] at hpack hleft
    rw [Coder.emitEcs_eq, Coder.pushBits, hpack, hleft]
    rfl
  next hne =>
    have hshort : (k.bitbuf ++ [b]).length < 8 := by
      rw [List.length_append, List.length_singleton]
      omega
    simp [Coder.pushBits, packBytes_of_short hshort, leftBits_of_short hshort, stuff]

theorem Coder.foldl_putBit_eq_pushBits {k : Coder} (h : k.bitbuf.length ≤ 7) (bits : List Bool) :
    bits.foldl Coder.putBit k = k.pushBits bits := by
  induction bits generalizing k with
  | nil => exact (Coder.pushBits_nil h).symm
  | cons b bits ih =>
    rw [List.foldl_cons, Coder.putBit_eq_pushBits h, ih (k.pushBits_bitbuf_length _), Coder.pushBits_pushBits,
      List.singleton_append]

theorem Coder.putBits_eq_pushBits {k : Coder} (h : k.bitbuf.length ≤ 7) (v n : Nat) :
    k.putBits v n = k.pushBits (bitsMsb v n) := Coder.foldl_putBit_eq_pushBits h _

theorem bitsMsb_ones (n : Nat) : bitsMsb (2 ^ n - 1) n = List.replicate n true := by
  refine List.ext_getElem (by simp [bitsMsb]) fun i hi _ => ?_
  have hin : i < n := by simpa [bitsMsb] using hi
  simp [bitsMsb, Nat.testBit_two_pow_sub_one]
  omega

/-- FLUSH appends the 1 bits that complete a byte (R110, R262). -/
theorem Coder.flush_eq_pushBits {k : Coder} (h : k.bitbuf.length ≤ 7) :
    k.flush = k.pushBits (List.replicate ((8 - k.bitbuf.length % 8) % 8) true) := by
  unfold Coder.flush
  split
  next hpos =>
    have hcount : (8 - k.bitbuf.length % 8) % 8 = 8 - k.bitbuf.length := by omega
    rw [Coder.putBits_eq_pushBits h, bitsMsb_ones, hcount]
  next hzero =>
    have hcount : (8 - k.bitbuf.length % 8) % 8 = 0 := by omega
    rw [hcount]
    exact (Coder.pushBits_nil h).symm

/-! ## The fields of a block (R111, R112) -/

theorem Coder.putCode_eq_pushBits {k : Coder} (h : k.bitbuf.length ≤ 7) (T : HuffTable) (sym : Nat) :
    k.putCode T sym = k.pushBits (codeBits T sym) := Coder.putBits_eq_pushBits h _ _

theorem Coder.putMag_eq_pushBits {k : Coder} (h : k.bitbuf.length ≤ 7) (v : Int) :
    k.putMag v = k.pushBits (magBits v) := Coder.putBits_eq_pushBits h _ _

theorem Coder.encDc_eq_pushBits {k : Coder} (h : k.bitbuf.length ≤ 7) (T : HuffTable) (dc : Int) (c : Fin 4) :
    k.encDc T dc c = { k with pred := k.pred.set c dc }.pushBits (dcBits T (dc - k.pred.get c)) := by
  rw [Coder.encDc, Coder.putCode_eq_pushBits (k := { k with pred := k.pred.set c dc }) h,
    Coder.putMag_eq_pushBits (Coder.pushBits_bitbuf_length _ _), Coder.pushBits_pushBits]
  rfl

theorem Coder.putZrls_eq_pushBits {k : Coder} (h : k.bitbuf.length ≤ 7) (T : HuffTable) (n : Nat) :
    Coder.putZrls T n k = k.pushBits (List.replicate n (codeBits T 0xF0)).flatten := by
  induction n generalizing k with
  | zero => exact (Coder.pushBits_nil h).symm
  | succ n ih =>
    rw [Coder.putZrls, Coder.putCode_eq_pushBits h, ih (k.pushBits_bitbuf_length _), Coder.pushBits_pushBits,
      List.replicate_succ, List.flatten_cons]

/-- The loop of ENC_AC sends the fields of the coefficients, and EOB if the last is zero; where none is left, `d`
stands for the one before them, zero if the run is not empty. -/
theorem Coder.acLoop_eq_pushBits {k : Coder} (h : k.bitbuf.length ≤ 7) (T : HuffTable) (coefs : List Int) (run : Nat)
    {d : Int} (hd : d = 0 ↔ 0 < run) :
    Coder.acLoop T coefs run k = k.pushBits ((acFields coefs run).flatMap (acFieldBits T) ++
      if coefs.getLastD d = 0 then codeBits T 0x00 else []) := by
  induction coefs generalizing run k d with
  | nil =>
    by_cases hrun : 0 < run
    · simp [Coder.acLoop, acFields, hrun, hd.mpr hrun, Coder.putCode_eq_pushBits h]
    · simp [Coder.acLoop, acFields, hrun, mt hd.mp hrun, Coder.pushBits_nil h]
  | cons a coefs ih =>
    by_cases ha : a = 0
    · rw [Coder.acLoop, if_pos ha, ih h (run + 1) (d := a) (by simp [ha]), acFields, if_pos ha, List.getLastD_cons]
    · rw [Coder.acLoop, if_neg ha]
      dsimp only
      rw [Coder.putZrls_eq_pushBits h, Coder.putCode_eq_pushBits (k.pushBits_bitbuf_length _),
        Coder.putMag_eq_pushBits (Coder.pushBits_bitbuf_length _ _),
        ih (Coder.pushBits_bitbuf_length _ _) 0 (d := a) (by simp [ha]), acFields, if_neg ha, List.getLastD_cons]
      simp only [Coder.pushBits_pushBits, List.flatMap_cons, acFieldBits, List.append_assoc]

theorem acCoefs_getLastD (zz : List Int) (d : Int) : (acCoefs zz).getLastD d = numberAt zz 63 := rfl

theorem Coder.encAc_eq_pushBits {k : Coder} (h : k.bitbuf.length ≤ 7) (T : HuffTable) (zz : List Int) :
    k.encAc T zz = k.pushBits (acBits T zz) := by
  rw [Coder.encAc, Coder.acLoop_eq_pushBits h T _ 0 (d := 1) (by simp), acCoefs_getLastD, acBits]

theorem Coder.encBlk_eq_pushBits {k : Coder} (h : k.bitbuf.length ≤ 7) (dcT acT : HuffTable) (q : List Int)
    (c : Fin 4) : k.encBlk dcT acT q c =
      { k with pred := k.pred.set c (numberAt q 0) }.pushBits (blockBits dcT acT (k.pred.get c) q) := by
  rw [Coder.encBlk, Coder.encDc_eq_pushBits h, Coder.encAc_eq_pushBits (Coder.pushBits_bitbuf_length _ _),
    Coder.pushBits_pushBits]
  rfl

end Sys2Proof.Machine
end

section
/-! SUPPORT. The operations between the header and EOI: they append stuffed bytes to OUT (R119), and what they do
depends on no byte of OUT, on no LIFECYCLE and on no response. -/

namespace Sys2Proof.Machine

/-- `s` with the bytes `x` before those in OUT, and another lifecycle and response. -/
def State.reframe (s : State) (l : Lifecycle) (r : Option Response) (x : List Byte) : State :=
  { s with lifecycle := l, response := r, out := x ++ s.out }

theorem State.reframe_reframe (s : State) (l l' : Lifecycle) (r r' : Option Response) (x y : List Byte) :
    (s.reframe l r x).reframe l' r' y = s.reframe l' r' (y ++ x) := by
  simp [State.reframe]

/-- What `f` does in `s` is an operation of the scan: BITBUF stays within 7 bits, OUT grows by stuffed bytes, and OUT
as it was, LIFECYCLE and the response are not read. -/
structure ScanOp (f : State → State) (s : State) : Prop where
  held : (f s).bitbuf.length ≤ 7
  grows : ∃ data, (f s).out = s.out ++ stuff data
  blind : ∀ l r x, f (s.reframe l r x) = (f s).reframe l r x

/-! ## How scan operations combine -/

theorem ScanOp.congr {f g : State → State} {s : State} (hg : ScanOp g s)
    (h : ∀ l r x, f (s.reframe l r x) = g (s.reframe l r x)) : ScanOp f s := by
  have hs : f s = g s := h s.lifecycle s.response []
  exact ⟨hs ▸ hg.held, hs ▸ hg.grows, fun l r x => by rw [h, hs, hg.blind]⟩

theorem ScanOp.comp {f g : State → State} {s : State} (hf : ScanOp f s) (hg : ScanOp g (f s)) :
    ScanOp (fun s => g (f s)) s where
  held := hg.held
  grows := by
    obtain ⟨a, ha⟩ := hf.grows
    obtain ⟨b, hb⟩ := hg.grows
    exact ⟨a ++ b, by rw [hb, ha, stuff_append, List.append_assoc]⟩
  blind l r x := by rw [hf.blind, hg.blind]

theorem ScanOp.skip {s : State} (h : s.bitbuf.length ≤ 7) : ScanOp (fun s => s) s :=
  ⟨h, ⟨[], (List.append_nil _).symm⟩, fun _ _ _ => rfl⟩

theorem ScanOp.foldl {α : Type} {f : State → α → State}
    (hf : ∀ (a : α) {s : State}, s.bitbuf.length ≤ 7 → ScanOp (f · a) s) (as : List α) {s : State}
    (h : s.bitbuf.length ≤ 7) : ScanOp (fun s => as.foldl f s) s := by
  induction as generalizing s with
  | nil => exact .skip h
  | cons a as ih => exact (hf a h).comp (ih (hf a h).held)

/-- A test that reads neither OUT nor LIFECYCLE nor the response chooses between scan operations. -/
theorem ScanOp.ite {p : State → Prop} [DecidablePred p] {f g : State → State} {s : State}
    (hp : ∀ l r x, p (s.reframe l r x) ↔ p s) (hf : ScanOp f s) (hg : ScanOp g s) :
    ScanOp (fun s => if p s then f s else g s) s := by
  by_cases h : p s
  · exact hf.congr fun l r x => if_pos ((hp l r x).mpr h)
  · exact hg.congr fun l r x => if_neg (mt (hp l r x).mp h)

/-- Appending bits appends stuffed bytes to OUT. -/
theorem ScanOp.pushBits (s : State) (p : Pred) (bits : List Bool) :
    ScanOp (fun s => s.withCoder (({ s.coder with pred := p } : Coder).pushBits bits)) s where
  held := Coder.pushBits_bitbuf_length _ _
  grows := ⟨_, rfl⟩
  blind l r x := by simp [State.withCoder, State.coder, State.reframe, Coder.pushBits]

/-- An update of the strip buffer is none of the coder. -/
theorem ScanOp.buffer {s : State} (h : s.bitbuf.length ≤ 7) (pending : List Row) (n : Nat) :
    ScanOp (fun s => (s.withPending pending).withRowsReceived n) s :=
  ⟨h, ⟨[], (List.append_nil _).symm⟩, fun _ _ _ => rfl⟩

/-! ## The operations of the scan -/

section
variable {s : State} (h : s.bitbuf.length ≤ 7)
include h

theorem State.encBlk_scanOp (q : List Int) (c : Fin 4) : ScanOp (fun s => s.encBlk q c) s :=
  (ScanOp.pushBits s (s.pred.set c (numberAt q 0))
    (blockBits (s.htDc (td c)) (s.htAc (ta c)) (s.pred.get c) q)).congr fun l r x =>
      congrArg _ (Coder.encBlk_eq_pushBits (k := (s.reframe l r x).coder) h _ _ _ _)

theorem State.codeBlock_scanOp (bx : Nat) (c : Fin 4) : ScanOp (fun s => s.codeBlock bx c) s :=
  (State.encBlk_scanOp h (transform (extract s.pending s.width.toNat bx c) (s.qt (tq c))) c).congr fun _ _ _ => rfl

theorem State.codeMcu_scanOp (bx : Nat) : ScanOp (fun s => s.codeMcu bx) s :=
  (ScanOp.foldl (fun c _ h => State.codeBlock_scanOp h bx c) (comps s.ncomp) h).congr fun _ _ _ => rfl

theorem State.band_scanOp : ScanOp State.band s :=
  have hmcus := ScanOp.foldl (fun bx _ h => State.codeMcu_scanOp h bx) (List.range s.blocksW) h
  have hempty := (ScanOp.buffer hmcus.held [] (State.rowsReceived _)).congr (f := (State.withPending · []))
    fun _ _ _ => rfl
  (hmcus.comp hempty).congr fun _ _ _ => rfl

theorem State.padBand_scanOp : ScanOp State.padBand s :=
  (ScanOp.buffer h (s.pending ++ List.replicate (Config.bandHeight - s.pending.length) (s.pending.getLastD []))
    s.rowsReceived).congr fun _ _ _ => rfl

theorem State.appendRow_scanOp (strip : List Byte) (off : Nat) : ScanOp (fun s => s.appendRow strip off) s :=
  have hrow := ScanOp.buffer h (s.pending ++ [convertRow s.colorType s.width.toNat strip off]) (s.rowsReceived + 1)
  (hrow.comp (.ite (p := fun t => t.pending.length = Config.bandHeight) (fun _ _ _ => .rfl)
    (State.band_scanOp hrow.held) (.skip hrow.held))).congr fun _ _ _ => rfl

theorem State.appendRows_scanOp (rows : List Byte) (n : Nat) : ScanOp (fun s => s.appendRows rows n) s :=
  (ScanOp.foldl (fun i _ h => State.appendRow_scanOp h rows (i * s.stride)) (List.range n) h).congr fun _ _ _ => rfl

theorem State.lastBand_scanOp : ScanOp State.lastBand s :=
  have hpad := State.padBand_scanOp h
  .ite (p := fun s => s.pending.length > 0) (fun _ _ _ => .rfl) (hpad.comp (State.band_scanOp hpad.held)) (.skip h)

theorem State.flush_scanOp : ScanOp State.flush s :=
  (ScanOp.pushBits s s.pred (List.replicate ((8 - s.bitbuf.length % 8) % 8) true)).congr fun l r x =>
    congrArg _ (Coder.flush_eq_pushBits (k := (s.reframe l r x).coder) h)

/-- The end of the scan: the last band, and the padding of its last byte (R143). -/
theorem State.endScan_scanOp : ScanOp (fun s => s.lastBand.flush) s :=
  have hband := State.lastBand_scanOp h
  hband.comp (State.flush_scanOp hband.held)

end

end Sys2Proof.Machine
end

section
/-! SUPPORT. A strip cut in two (R191): APPEND_ROWS of both parts does what APPEND_ROWS of the whole does. -/

namespace Sys2Proof.Machine

theorem memReadStrip_append_left {a : List Byte} {off n : Nat} (h : off + n ≤ a.length) (b : List Byte) :
    memReadStrip (a ++ b) off n = memReadStrip a off n := by
  rw [memReadStrip, List.drop_append_of_le_length (by omega), List.take_append_of_le_length, memReadStrip]
  rw [List.length_drop]
  omega

theorem memReadStrip_append_right (a b : List Byte) (off n : Nat) :
    memReadStrip (a ++ b) (a.length + off) n = memReadStrip b off n := by
  rw [memReadStrip, List.drop_length_add_append, memReadStrip]

/-- A row of the first part is read from the first part (R181). -/
theorem convertRow_append_left {ct : ColorType} {w off : Nat} {a : List Byte} (h : off + w * ct.bpp ≤ a.length)
    (b : List Byte) : convertRow ct w (a ++ b) off = convertRow ct w a off := by
  have hpixel : ∀ x ∈ List.range w, cvt ct (memReadStrip (a ++ b) (off + x * ct.bpp) ct.bpp) =
      cvt ct (memReadStrip a (off + x * ct.bpp) ct.bpp) := fun x hx => by
    have hend : (x + 1) * ct.bpp ≤ w * ct.bpp := Nat.mul_le_mul_right _ (List.mem_range.mp hx)
    rw [Nat.succ_mul] at hend
    rw [memReadStrip_append_left (by omega)]
  rw [convertRow, List.map_congr_left hpixel, convertRow]

theorem convertRow_append_right (ct : ColorType) (w : Nat) (a b : List Byte) (off : Nat) :
    convertRow ct w (a ++ b) (a.length + off) = convertRow ct w b off := by
  simp only [convertRow, Nat.add_assoc, memReadStrip_append_right]

/-- APPEND_ROWS reads a strip through CONVERT_ROW only. -/
theorem State.appendRow_congr {s : State} {strip strip' : List Byte} {off off' : Nat}
    (h : convertRow s.colorType s.width.toNat strip off = convertRow s.colorType s.width.toNat strip' off') :
    s.appendRow strip off = s.appendRow strip' off' := by
  rw [State.appendRow, h, State.appendRow]

/-- APPEND_ROWS keeps the shape of the image, and counts the rows. -/
theorem State.appendRows_frame (s : State) (rows : List Byte) (n : Nat) :
    (s.appendRows rows n).colorType = s.colorType ∧ (s.appendRows rows n).width = s.width ∧
      (s.appendRows rows n).height = s.height ∧ (s.appendRows rows n).rowsReceived = s.rowsReceived + n := by
  obtain ⟨_, p, ⟨k, -, rfl⟩, heq, -⟩ := s.appendRows_eq rows n
  rw [heq]
  exact ⟨rfl, rfl, rfl, rfl⟩

theorem State.appendRows_append_left {s : State} {a : List Byte} {n : Nat} (h : n * s.stride ≤ a.length)
    (b : List Byte) : s.appendRows (a ++ b) n = s.appendRows a n := by
  induction n with
  | zero => rfl
  | succ n ih =>
    rw [Nat.succ_mul] at h
    obtain ⟨hct, hw, -⟩ := s.appendRows_frame a n
    rw [State.appendRows_succ, State.appendRows_succ, ih (by omega)]
    refine State.appendRow_congr (convertRow_append_left ?_ b)
    rw [hct, hw]
    exact h

theorem State.appendRows_appendRows {s : State} {a : List Byte} {n : Nat} (h : a.length = n * s.stride)
    (b : List Byte) (m : Nat) : (s.appendRows a n).appendRows b m = s.appendRows (a ++ b) (n + m) := by
  induction m with
  | zero => exact (State.appendRows_append_left h.ge b).symm
  | succ m ih =>
    have hstride : (s.appendRows a n).stride = s.stride := by
      obtain ⟨hct, hw, -⟩ := s.appendRows_frame a n
      rw [State.stride, hct, hw, State.stride]
    rw [State.appendRows_succ, ih, ← Nat.add_assoc, State.appendRows_succ, hstride]
    refine State.appendRow_congr ?_
    rw [Nat.add_mul, ← h, convertRow_append_right]

end Sys2Proof.Machine
end

section
/-! SUPPORT. Scripts of strips and TAKE_OUTPUT commands (R149, R152): the bytes they return and the state they leave. -/

namespace Sys2Proof.Machine

/-! ## Sequences of commands -/

theorem runCommands_cons_inv {i : Instr} {is : List Instr} {s u : State} {bytes : List Byte}
    (h : runCommands (i :: is) s = some (u, bytes)) :
    ∃ t rest, exec i s = .next t ∧ runCommands is t = some (u, rest) ∧ bytes = t.responseBytes ++ rest := by
  unfold runCommands at h
  split at h
  next t ht =>
    obtain ⟨⟨v, rest⟩, hrun, heq⟩ := Option.map_eq_some_iff.mp h
    cases heq
    exact ⟨t, rest, ht, hrun, rfl⟩
  all_goals cases h

theorem runCommands_append {is js : List Instr} {s t u : State} {a b : List Byte}
    (hfirst : runCommands is s = some (t, a)) (hrest : runCommands js t = some (u, b)) :
    runCommands (is ++ js) s = some (u, a ++ b) := by
  induction is generalizing s a with
  | nil =>
    cases hfirst
    exact hrest
  | cons i is ih =>
    obtain ⟨v, c, hv, hrun, rfl⟩ := runCommands_cons_inv hfirst
    rw [List.append_assoc]
    exact runCommands_cons hv (ih hrun)

/-! ## The rows of a strip -/

/-- The rows of a strip taken, OUT not yet drained (R142). -/
def State.takeRows (s : State) (pixels : List Byte) : State := s.appendRows pixels (pixels.length / s.stride)

theorem State.takeRows_stride (s : State) (pixels : List Byte) : (s.takeRows pixels).stride = s.stride := by
  obtain ⟨hct, hw, -⟩ := s.appendRows_frame pixels (pixels.length / s.stride)
  rw [State.takeRows, State.stride, hct, hw, State.stride]

theorem State.takeRows_height (s : State) (pixels : List Byte) : (s.takeRows pixels).height = s.height := by
  obtain ⟨-, -, hh, -⟩ := s.appendRows_frame pixels (pixels.length / s.stride)
  exact hh

theorem State.takeRows_rowsReceived (s : State) (pixels : List Byte) :
    (s.takeRows pixels).rowsReceived = s.rowsReceived + pixels.length / s.stride := by
  obtain ⟨-, -, -, hrows⟩ := s.appendRows_frame pixels (pixels.length / s.stride)
  exact hrows

theorem State.takeRows_scanOp {s : State} (h : s.bitbuf.length ≤ 7) (pixels : List Byte) :
    ScanOp (fun s => s.takeRows pixels) s :=
  (State.appendRows_scanOp h pixels (pixels.length / s.stride)).congr fun _ _ _ => rfl

theorem State.takeRows_nil (s : State) : s.takeRows [] = s := by
  rw [State.takeRows, List.length_nil, Nat.zero_div]
  rfl

theorem State.takeRows_takeRows {s : State} {a : List Byte} (h : s.stride ∣ a.length) (b : List Byte) :
    (s.takeRows a).takeRows b = s.takeRows (a ++ b) := by
  rw [State.takeRows, State.takeRows_stride, State.takeRows, State.appendRows_appendRows (Nat.div_mul_cancel h).symm,
    State.takeRows, List.length_append, Nat.add_div_of_dvd_right h]

/-! ## What a script does to the stream -/

/-- The bytes a command of a script carries: a strip's, none for TAKE_OUTPUT. -/
def scriptPixels (c : Option (List Byte)) : List Byte := c.getD []

theorem flatMap_scriptPixels (script : List (Option (List Byte))) :
    script.flatMap scriptPixels = (script.filterMap id).flatten := by
  induction script with
  | nil => rfl
  | cons c script ih => cases c <;> simp [scriptPixels, ih]

/-- A drain takes OUT and changes LIFECYCLE and the response besides. -/
theorem State.respondDrain_reframe (s : State) (l : Lifecycle) :
    (s.withLifecycle l).respondDrain.reframe s.lifecycle s.response s.out = s := by
  change { s with out := s.out ++ [] } = s
  rw [List.append_nil]

theorem State.closeStream_reframe {s : State} (h : s.bitbuf.length ≤ 7) (l : Lifecycle) (r : Option Response) :
    (s.reframe l r []).closeStream = s.closeStream := by
  have hend : (s.reframe l r []).lastBand.flush = s.lastBand.flush.reframe l r [] :=
    (State.endScan_scanOp h).blind l r []
  change (((s.reframe l r []).lastBand.flush).writeEoi.withLifecycle .finished).respondDrain = _
  rw [hend]
  rfl

theorem State.not_unconfigured_of_gate {s : State} (hgate : s.encodeGate = none) : s.lifecycle ≠ .unconfigured := by
  obtain hl | hl := State.encodeGate_none_iff.mp hgate <;> simp [hl]

/-- What a state has of the rows taken, when OUT, LIFECYCLE and the response are left out of account. -/
theorem State.fields_of_takeRows {s t : State} {pixels x : List Byte} {l : Lifecycle} {r : Option Response}
    (h : s.takeRows pixels = t.reframe l r x) :
    t.stride = s.stride ∧ t.height = s.height ∧ t.rowsReceived = s.rowsReceived + pixels.length / s.stride ∧
      (s.bitbuf.length ≤ 7 → t.bitbuf.length ≤ 7) := by
  have hstride := s.takeRows_stride pixels
  have hheight := s.takeRows_height pixels
  have hrows := s.takeRows_rowsReceived pixels
  have hheld := fun hs : s.bitbuf.length ≤ 7 => (State.takeRows_scanOp hs pixels).held
  rw [h] at hstride hheight hrows hheld
  exact ⟨hstride, hheight, hrows, hheld⟩

/-- A command of a script takes its rows, and returns all of OUT. -/
theorem exec_stripCommand {s : State} (hgate : s.encodeGate = none) {c : Option (List Byte)}
    (hwhole : s.stride ∣ (scriptPixels c).length)
    (hfits : s.rowsReceived + (scriptPixels c).length / s.stride ≤ s.height.toNat) :
    ∃ t l r, exec (stripCommand c) s = .next t ∧ t.encodeGate = none ∧ t.out = [] ∧
      s.takeRows (scriptPixels c) = t.reframe l r t.responseBytes := by
  cases c with
  | none =>
    have hl := State.not_unconfigured_of_gate hgate
    exact ⟨_, s.lifecycle, s.response, exec_takeOutput_of_configured hl, hgate, rfl,
      s.takeRows_nil.trans (s.respondDrain_reframe s.lifecycle).symm⟩
  | some rows =>
    have htake := exec_encodeStrip_of_fits hgate (Nat.mod_eq_zero_of_dvd hwhole) hfits
    exact ⟨_, _, _, htake, rfl, rfl, ((s.takeRows rows).respondDrain_reframe .active).symm⟩

/-- A script leaves what its rows taken in one go leave, but for the bytes it returned, LIFECYCLE and the response. -/
theorem runCommands_script (script : List (Option (List Byte))) {s : State} (hgate : s.encodeGate = none)
    (hbits : s.bitbuf.length ≤ 7) (hwhole : ∀ c ∈ script, s.stride ∣ (scriptPixels c).length)
    (hfits : s.rowsReceived + (script.flatMap scriptPixels).length / s.stride ≤ s.height.toNat) :
    ∃ t bytes l r, runCommands (script.map stripCommand) s = some (t, bytes) ∧ t.encodeGate = none ∧
      (s.out = [] ∨ script ≠ [] → t.out = []) ∧
      s.takeRows (script.flatMap scriptPixels) = t.reframe l r bytes := by
  induction script generalizing s with
  | nil => exact ⟨s, [], s.lifecycle, s.response, rfl, hgate, fun h => h.resolve_right (· rfl), s.takeRows_nil⟩
  | cons c script ih =>
    have hc := hwhole c List.mem_cons_self
    rw [List.flatMap_cons, List.length_append, Nat.add_div_of_dvd_right hc, ← Nat.add_assoc] at hfits
    obtain ⟨t, l, r, hexec, hgate', hout, htake⟩ := exec_stripCommand hgate hc (Nat.le_of_add_right_le hfits)
    obtain ⟨hstride, hheight, hrows, hheld⟩ := State.fields_of_takeRows htake
    have hbits' := hheld hbits
    obtain ⟨u, bytes, l', r', hrun, hgate'', hout', hrest⟩ := ih hgate' hbits'
      (fun d hd => hstride ▸ hwhole d (List.mem_cons_of_mem _ hd)) (by rwa [hstride, hheight, hrows])
    refine ⟨u, t.responseBytes ++ bytes, l, r, runCommands_cons hexec hrun, hgate'', fun _ => hout' (.inl hout), ?_⟩
    have hblind : (t.reframe l r t.responseBytes).takeRows (script.flatMap scriptPixels) =
        (t.takeRows (script.flatMap scriptPixels)).reframe l r t.responseBytes :=
      (State.takeRows_scanOp hbits' _).blind _ _ _
    rw [List.flatMap_cons, ← State.takeRows_takeRows hc, htake, hblind, hrest, State.reframe_reframe]

/-- A script and FINISH, when the rows are all there: the bytes and the state are those of the rows taken in one go. -/
theorem runCommands_script_finish {script : List (Option (List Byte))} (hne : script ≠ []) {s : State}
    (hgate : s.encodeGate = none) (hbits : s.bitbuf.length ≤ 7)
    (hwhole : ∀ c ∈ script, s.stride ∣ (scriptPixels c).length)
    (hall : s.rowsReceived + (script.flatMap scriptPixels).length / s.stride = s.height.toNat) :
    runCommands (script.map stripCommand ++ [.finish]) s =
      some (((s.takeRows (script.flatMap scriptPixels)).withOut []).closeStream,
        (s.takeRows (script.flatMap scriptPixels)).out ++
          ((s.takeRows (script.flatMap scriptPixels)).withOut []).closeStream.responseBytes) := by
  obtain ⟨t, bytes, l, r, hrun, hgate', hout, htake⟩ := runCommands_script script hgate hbits hwhole hall.le
  obtain ⟨-, hheight, hrows, hheld⟩ := State.fields_of_takeRows htake
  have hcomplete : t.height.toNat ≤ t.rowsReceived := by rw [hheight, hrows, hall]
  have hbytes : (t.reframe l r bytes).out = bytes := by
    change bytes ++ t.out = bytes
    rw [hout (.inr hne), List.append_nil]
  have hclose : ((t.reframe l r bytes).withOut []).closeStream = t.closeStream := by
    rw [← State.closeStream_reframe (hheld hbits) l r]
    refine congrArg State.closeStream ?_
    change { t with lifecycle := l, response := r, out := [] } = { t with lifecycle := l, response := r, out := t.out }
    rw [hout (.inr hne)]
  have hfinish := runCommands_cons (exec_finish_of_complete hgate' hcomplete) (runCommands_nil _)
  rw [htake, hbytes, hclose, runCommands_append hrun hfinish, List.append_nil]

/-! ## Scripts after CONSTRUCT -/

section
variable (s : State) (w h : Half) (ct : ColorType) (q : BitVec 7)

@[simp] theorem State.construct_stride : (s.construct w h ct q).stride = w.toNat * ct.bpp := by
  rw [State.construct_eq]
  rfl

@[simp] theorem State.construct_height : (s.construct w h ct q).height = h := by
  rw [State.construct_eq]
  rfl

@[simp] theorem State.construct_rowsReceived : (s.construct w h ct q).rowsReceived = 0 := by
  rw [State.construct_eq]
  rfl

@[simp] theorem State.construct_bitbuf : (s.construct w h ct q).bitbuf = [] := by
  rw [State.construct_eq]
  rfl

@[simp] theorem State.construct_encodeGate : (s.construct w h ct q).encodeGate = none := rfl

end

/-- Settles O25: after CONSTRUCT each of the two scripts does what taking the rows of all the pixels in one go does. -/
theorem chunkingInvariance : Obligations.ChunkingInvariance := by
  unfold Obligations.ChunkingInvariance
  intro s w h ct q c pixels script hc hlen hpixels hwhole
  have hexec := exec_construct_of_legal hc s
  obtain ⟨hw, hw', hh, hh', -⟩ := hc
  have hwidth : (w.setWidth 16).toNat = w.toNat := by
    rw [BitVec.toNat_setWidth, Nat.mod_eq_of_lt (by omega)]
  have hheight : (h.setWidth 16).toNat = h.toNat := by
    rw [BitVec.toNat_setWidth, Nat.mod_eq_of_lt (by omega)]
  have hstride : 0 < w.toNat * c.bpp := Nat.mul_pos hw c.bpp_pos
  have hrun : ∀ cut : List (Option (List Byte)), cut.flatMap scriptPixels = pixels →
      (∀ d ∈ cut, w.toNat * c.bpp ∣ (scriptPixels d).length) →
      runCommands (.construct w h ct q :: (cut.map stripCommand ++ [.finish])) s = some _ := fun cut hcut hdvd => by
    have hne : cut ≠ [] := by
      rintro rfl
      have hpos : 0 < pixels.length := hlen ▸ Nat.mul_pos hh hstride
      rw [← hcut] at hpos
      exact absurd hpos (Nat.lt_irrefl 0)
    have hcmds := runCommands_script_finish hne
      (s := s.construct (w.setWidth 16) (h.setWidth 16) c (q.setWidth 7)) (by simp) (by simp)
      (by simpa [hwidth] using hdvd)
      (by simp [hwidth, hheight, hcut, hlen, Nat.mul_div_cancel _ hstride])
    rw [hcut] at hcmds
    exact runCommands_cons hexec hcmds
  refine ⟨_, hrun script ?_ fun d hd => ?_, hrun [some pixels] ?_ fun d hd => ?_⟩
  · rw [flatMap_scriptPixels, hpixels]
  · cases d with
    | none => exact Nat.dvd_zero _
    | some strip => exact hwhole strip hd
  · exact List.append_nil _
  · cases List.mem_singleton.mp hd
    exact ⟨h.toNat, by rw [scriptPixels, Option.getD_some, hlen, Nat.mul_comm]⟩

/-! ## The markers of the stream (R119, R152) -/

theorem stuffed_cons_of_ne {b : Byte} (h : b ≠ 0xFF#8) (bs : List Byte) : stuffed (b :: bs) = stuffed bs := by
  cases bs <;> simp [stuffed, h]

/-- After stuffing every FF is followed by 00. -/
theorem stuffed_stuff (data : List Byte) : stuffed (stuff data) = true := by
  induction data with
  | nil => rfl
  | cons b data ih =>
    by_cases hb : b = 0xFF#8
    · have hcons : stuff (b :: data) = 0xFF#8 :: 0x00#8 :: stuff data := by simp [stuff, hb]
      have hzero := stuffed_cons_of_ne (b := 0x00#8) (by decide) (stuff data)
      rw [hcons, stuffed, hzero, ih]
      rfl
    · have hcons : stuff (b :: data) = b :: stuff data := by simp [stuff, hb]
      rw [hcons, stuffed_cons_of_ne hb, ih]

/-- FINISH returns what is in OUT, the end of the scan, and EOI. -/
theorem State.closeStream_responseBytes {s : State} (h : s.bitbuf.length ≤ 7) :
    ∃ data, s.closeStream.responseBytes = s.out ++ stuff data ++ eoiBytes := by
  obtain ⟨data, hout⟩ := (State.endScan_scanOp h).grows
  exact ⟨data, congrArg (· ++ eoiBytes) hout⟩

/-- A command of a script, refused or not, adds stuffed bytes to those returned and those still in OUT. -/
theorem exec_stripCommand_scan {s t : State} (hgate : s.encodeGate = none) (hbits : s.bitbuf.length ≤ 7)
    {c : Option (List Byte)} (h : exec (stripCommand c) s = .next t) :
    t.encodeGate = none ∧ t.bitbuf.length ≤ 7 ∧ ∃ data, t.responseBytes ++ t.out = s.out ++ stuff data := by
  cases c with
  | none =>
    have hl := State.not_unconfigured_of_gate hgate
    rw [stripCommand, exec_takeOutput_of_configured hl] at h
    cases h
    exact ⟨hgate, hbits, [], rfl⟩
  | some rows =>
    rw [stripCommand] at h
    obtain ⟨st, heq⟩ | ⟨-, -, -, heq⟩ := exec_encodeStrip_cases rows s <;> rw [heq] at h <;> cases h
    · exact ⟨hgate, hbits, [], (List.append_nil _).symm⟩
    · have htake := State.takeRows_scanOp hbits rows
      obtain ⟨data, hout⟩ := htake.grows
      exact ⟨rfl, htake.held, data, (List.append_nil _).trans hout⟩

/-- Whatever a script's commands are answered, with an accepted FINISH the bytes returned are OUT, a stuffed scan and
EOI. -/
theorem runCommands_script_scan (script : List (Option (List Byte))) {s t : State} {bytes : List Byte}
    (hgate : s.encodeGate = none) (hbits : s.bitbuf.length ≤ 7)
    (hrun : runCommands (script.map stripCommand ++ [.finish]) s = some (t, bytes)) (hfin : t.lifecycle = .finished) :
    ∃ data, bytes = s.out ++ stuff data ++ eoiBytes := by
  induction script generalizing s bytes with
  | nil =>
    obtain ⟨u, rest, hexec, hnil, rfl⟩ := runCommands_cons_inv hrun
    cases hnil
    rw [List.append_nil]
    obtain ⟨st, heq⟩ | ⟨-, -, heq⟩ := exec_finish_cases s <;> rw [heq] at hexec <;> cases hexec
    · rw [State.encodeGate_of_finished (s := s) hfin] at hgate
      cases hgate
    · exact State.closeStream_responseBytes hbits
  | cons c script ih =>
    obtain ⟨u, rest, hexec, hrest, rfl⟩ := runCommands_cons_inv hrun
    obtain ⟨hgate', hbits', a, hfirst⟩ := exec_stripCommand_scan hgate hbits hexec
    obtain ⟨b, rfl⟩ := ih hgate' hbits' hrest
    refine ⟨a ++ b, ?_⟩
    rw [stuff_append, ← List.append_assoc s.out, ← hfirst]
    simp only [List.append_assoc]

/-- Settles O27: after CONSTRUCT OUT is the header, and what the script and FINISH add is stuffed up to EOI. -/
theorem streamMarkersWellFormed : Obligations.StreamMarkersWellFormed := by
  unfold Obligations.StreamMarkersWellFormed
  intro s t w h ct q c script stream hc hrun hfin
  rw [List.append_assoc, List.singleton_append] at hrun
  obtain ⟨u, rest, hexec, hrest, rfl⟩ := runCommands_cons_inv hrun
  rw [exec_construct_of_legal hc] at hexec
  cases hexec
  obtain ⟨data, rfl⟩ := runCommands_script_scan script (by simp) (by simp) hrest hfin
  rw [State.construct_out, State.construct_responseBytes, hc.setWidth_quality, List.nil_append, BitVec.ofNat_toNat,
    BitVec.ofNat_toNat]
  exact ⟨stuff data, rfl, stuffed_stuff data, rfl⟩

end Sys2Proof.Machine
end

section
/-! SUPPORT. The colour converter by itself: the three sums of RGB2YCC are bytes (R171), the nine CVT operations (R172
to R180), and the row CONVERT_ROW makes, pixel by pixel (R181). -/

namespace Sys2Proof.Machine

/-- An integer from 0 to 255 is kept by its byte, with no clamp. -/
theorem toNat_ofInt_byte {v : Int} (hlo : 0 ≤ v) (hhi : v < 256) : ((BitVec.ofInt 8 v).toNat : Int) = v := by
  rw [BitVec.toNat_ofInt]
  omega

/-- In each sum of R171 the negative coefficients weigh no more than the constant, and all that is positive is below
256 times 65536. -/
theorem rgb2yccInt_range {r g b : Int} (hr : 0 ≤ r ∧ r < 256) (hg : 0 ≤ g ∧ g < 256) (hb : 0 ≤ b ∧ b < 256) :
    (0 ≤ (rgb2yccInt r g b).1 ∧ (rgb2yccInt r g b).1 < 256) ∧
      (0 ≤ (rgb2yccInt r g b).2.1 ∧ (rgb2yccInt r g b).2.1 < 256) ∧
      0 ≤ (rgb2yccInt r g b).2.2 ∧ (rgb2yccInt r g b).2.2 < 256 := by
  simp only [rgb2yccInt, asr]
  omega

/-- Settles O28: each sum is from 0 to 255, so its byte has its value. -/
theorem rgb2yccIsExact : Obligations.Rgb2yccIsExact := by
  unfold Obligations.Rgb2yccIsExact
  intro s r g b
  have hbyte (p : Byte) : 0 ≤ (p.toNat : Int) ∧ (p.toNat : Int) < 256 := by
    have := p.isLt
    omega
  obtain ⟨⟨hy, hy'⟩, ⟨hcb, hcb'⟩, hcr, hcr'⟩ := rgb2yccInt_range (hbyte r) (hbyte g) (hbyte b)
  exact ⟨_, _, _, rfl, rfl, Int.ofNat.inj (toNat_ofInt_byte hy hy'), toNat_ofInt_byte hcb hcb',
    toNat_ofInt_byte hcr hcr'⟩

/-- Settles O29: an operation gives the value of its own function, and CONVERT_ROW's `cvt` is that function of the
pixel's bytes. -/
theorem cvtOperations : Obligations.CvtOperations := by
  unfold Obligations.CvtOperations
  intro s p0 p1 p2 p3
  and_intros <;> rfl

/-! ## CONVERT_ROW (R181) -/

theorem exec_convertRow_of_fits {s : State} {strip : List Byte} {off : Nat} (h : off + s.stride ≤ strip.length) :
    exec (.convertRow strip off) s =
      .next { s with result := .row (convertRow s.colorType s.width.toNat strip off) } :=
  if_pos h

/-- A colour type's CVT gives one sample for each component. -/
theorem cvt_length (ct : ColorType) (p : List Byte) : (cvt ct p).length = ct.ncomp := by
  cases ct <;> rfl

theorem getElem?_eq_some_byteAt {p : List Byte} {j : Nat} (h : j < p.length) : p[j]? = some (byteAt p j) := by
  simp [byteAt, List.getD, h]

/-- Plane `c` of the row holds sample `c` of each pixel, from the left. -/
theorem convertRow_getElem? {ct : ColorType} {c : Nat} (hc : c < ct.ncomp) (w : Nat) (strip : List Byte) (off : Nat) :
    (convertRow ct w strip off)[c]? = some ((List.range w).map
      fun x => byteAt (cvt ct (memReadStrip strip (off + x * ct.bpp) ct.bpp)) c) := by
  simp [convertRow, hc]

/-- Settles O32: the row fits, so CONVERT_ROW makes it, and no sample of it is one that a CVT does not give. -/
theorem convertRowPerPixel : Obligations.ConvertRowPerPixel := by
  unfold Obligations.ConvertRowPerPixel
  intro s strip off hfits
  refine ⟨_, exec_convertRow_of_fits hfits, (convertRow_shape ..).1, fun c hc => ?_⟩
  refine ⟨_, convertRow_getElem? hc .., by simp, fun x hx => ?_⟩
  have hsample : c < (cvt s.colorType (memReadStrip strip (off + x * s.colorType.bpp) s.colorType.bpp)).length := by
    rwa [cvt_length]
  refine ⟨_, ?_, getElem?_eq_some_byteAt hsample⟩
  rw [List.getElem?_map, List.getElem?_range hx, Option.map_some, memReadStrip]

end Sys2Proof.Machine
end

section
/-! SUPPORT. The internal operations of the scheduler as instructions: PAD_BAND (R194), BAND and the three operations of
each of its blocks (R192), APPEND_ROWS row by row (R191). -/

namespace Sys2Proof.Machine

/-! ## PAD_BAND (R194) -/

/-- PAD_BAND on pending rows that end in `last`. -/
theorem State.padBand_of_append {s : State} {rows : List Row} {last : Row} (h : s.pending = rows ++ [last])
    (hle : rows.length ≤ 7) : s.padBand = s.withPending (rows ++ List.replicate (8 - rows.length) last) := by
  have hcount : 8 - rows.length = 8 - (rows.length + 1) + 1 := by omega
  rw [State.padBand, h, List.getLastD_concat, List.length_append, List.length_singleton, hcount, List.replicate_succ,
    List.append_assoc, List.singleton_append]

/-- Settles O35: the last row is the one repeated, and PENDING alone is written. -/
theorem padBandRepeatsLastRow : Obligations.PadBandRepeatsLastRow := by
  unfold Obligations.PadBandRepeatsLastRow
  intro s rows last hpend hle
  have hlen : s.pending.length = rows.length + 1 := by simp [hpend]
  rw [exec_padBand_of_pending (by omega) (by omega), State.padBand_of_append hpend (by omega)]
  rfl

/-! ## BAND (R192) -/

@[simp] theorem transform_length (blk : List Int) (table : List Byte) : (transform blk table).length = 64 := by
  simp [transform, quant]

theorem State.Codes.ncomp {s t : State} (h : s.Codes t) : t.ncomp = s.ncomp := by
  obtain ⟨k, -, rfl⟩ := h
  rfl

/-- Coding an MCU keeps NCOMP, so the components of every MCU are those of the first. -/
theorem State.foldl_codeMcu (s : State) (bxs : List Nat) :
    bxs.foldl State.codeMcu s =
      bxs.foldl (fun u bx => (comps s.ncomp).foldl (fun u c => u.codeBlock bx c) u) s := by
  induction bxs generalizing s with
  | nil => rfl
  | cons bx bxs ih =>
    rw [List.foldl_cons, ih, (s.codeMcu_codes bx).ncomp]
    rfl

/-- Settles O34: BAND codes the MCUs, and a block is coded by the three operations, each of which completes. -/
theorem bandCodesMcusInOrder : Obligations.BandCodesMcusInOrder := by
  unfold Obligations.BandCodesMcusInOrder
  intro s hfull
  refine ⟨?_, fun bx c _ hc => ⟨_, _, exec_extract hfull hc, rfl, transform_length _ (s.qt (tq c)), rfl⟩⟩
  rw [exec_band_of_full hfull, State.band, State.foldl_codeMcu]
  rfl

/-! ## APPEND_ROWS (R191) -/

/-- The row CONVERT_ROW gives is buffered and counted. -/
def State.bufferRow (s : State) (strip : List Byte) (off : Nat) : State :=
  { s with
    pending := s.pending ++ [convertRow s.colorType s.width.toNat strip off]
    rowsReceived := s.rowsReceived + 1 }

theorem State.appendRow_of_eighth {s : State} {strip : List Byte} {off : Nat}
    (h : (s.bufferRow strip off).pending.length = 8) : s.appendRow strip off = (s.bufferRow strip off).band := if_pos h

theorem State.appendRow_of_not_eighth {s : State} {strip : List Byte} {off : Nat}
    (h : (s.bufferRow strip off).pending.length ≠ 8) : s.appendRow strip off = s.bufferRow strip off := if_neg h

@[simp] theorem State.appendRows_stride (s : State) (rows : List Byte) (n : Nat) :
    (s.appendRows rows n).stride = s.stride := by
  obtain ⟨hct, hw, -⟩ := s.appendRows_frame rows n
  rw [State.stride, hct, hw, State.stride]

/-- Settles O33: APPEND_ROWS of one row more is the row appended to what APPEND_ROWS of the others leaves. -/
theorem appendRowsLoop : Obligations.AppendRowsLoop := by
  unfold Obligations.AppendRowsLoop
  intro s rows
  refine ⟨exec_appendRows_of_le (by omega), fun n hfits => ?_⟩
  change (n + 1) * s.stride ≤ rows.length at hfits
  have hmore := exec_appendRows_of_le hfits
  rw [State.appendRows_succ] at hmore
  rw [Nat.succ_mul] at hfits
  have hconvert : n * s.stride + (s.appendRows rows n).stride ≤ rows.length := by rwa [State.appendRows_stride]
  refine ⟨s.appendRows rows n, _, (s.appendRows rows n).bufferRow rows (n * s.stride),
    exec_appendRows_of_le (by omega), exec_convertRow_of_fits hconvert, rfl,
    fun h8 => ⟨_, exec_band_of_full h8, ?_⟩, fun h8 => ?_⟩
  · rw [hmore, State.appendRow_of_eighth h8]
  · rw [hmore, State.appendRow_of_not_eighth h8]

end Sys2Proof.Machine
end

section
/-! SUPPORT. The blocks of an MCU as one append of bits to the coder (R192, R236, R260). -/

namespace Sys2Proof.Machine

/-! ## Appending bits to the state -/

/-- `s` after `bits` have been sent, with the predictors `p`. -/
def State.push (s : State) (p : Pred) (bits : List Bool) : State :=
  s.withCoder (({ s.coder with pred := p } : Coder).pushBits bits)

@[simp] theorem State.push_pred (s : State) (p : Pred) (bits : List Bool) : (s.push p bits).pred = p := rfl

theorem State.push_bitbuf_length (s : State) (p : Pred) (bits : List Bool) : (s.push p bits).bitbuf.length ≤ 7 :=
  Coder.pushBits_bitbuf_length _ _

theorem State.push_nil {s : State} (h : s.bitbuf.length ≤ 7) : s.push s.pred [] = s :=
  congrArg s.withCoder (Coder.pushBits_nil (k := s.coder) h)

theorem State.push_push (s : State) (p p' : Pred) (a b : List Bool) : (s.push p a).push p' b = s.push p' (a ++ b) :=
  congrArg s.withCoder (Coder.pushBits_pushBits { s.coder with pred := p' } a b)

/-- FLUSH after bits sent from a byte boundary: all of them and the 1 bits that complete the last byte are in OUT. -/
theorem State.push_flush_out {s : State} (h : s.bitbuf = []) (p : Pred) (bits : List Bool) :
    (s.push p bits).flush.out = s.out ++ stuff (packBytes (padOnes bits)) := by
  have hheld : (s.push p bits).bitbuf.length = bits.length % 8 := by
    change (leftBits (s.bitbuf ++ bits)).length = _
    rw [h, List.nil_append, leftBits_length]
  have hflush : (s.push p bits).flush =
      (s.push p bits).push p (List.replicate ((8 - (s.push p bits).bitbuf.length % 8) % 8) true) :=
    congrArg (s.push p bits).withCoder (Coder.flush_eq_pushBits (s.push_bitbuf_length p bits))
  rw [hflush, hheld, Nat.mod_mod, State.push_push]
  change s.out ++ stuff (packBytes (s.bitbuf ++ _)) = _
  rw [h, List.nil_append, padOnes]

/-! ## The blocks of an MCU -/

theorem mem_comps {n : Nat} {c : Fin 4} : c ∈ comps n ↔ c.val < n := by
  match n with
  | 0 | 1 | 2 | 3 => revert c; decide
  | n + 4 =>
    have hall : c ∈ ([0, 1, 2, 3] : List (Fin 4)) := by revert c; decide
    rw [comps, List.take_of_length_le (by simp)]
    exact iff_of_true hall (by omega)

theorem comps_nodup (n : Nat) : (comps n).Nodup :=
  (by decide : ([0, 1, 2, 3] : List (Fin 4)).Nodup).sublist (List.take_sublist _ _)

/-- The predictors after a block of each component in `cs`, whose coefficients are `coefs` (R236). -/
def Pred.afterBlocks (p : Pred) (coefs : Fin 4 → List Int) (cs : List (Fin 4)) : Pred :=
  cs.foldl (fun p c => p.set c (numberAt (coefs c) 0)) p

theorem Pred.afterBlocks_get (p : Pred) (coefs : Fin 4 → List Int) (cs : List (Fin 4)) (c : Fin 4) :
    (p.afterBlocks coefs cs).get c = if c ∈ cs then numberAt (coefs c) 0 else p.get c := by
  induction cs generalizing p with
  | nil => rfl
  | cons d cs ih =>
    have hcons : p.afterBlocks coefs (d :: cs) = (p.set d (numberAt (coefs d) 0)).afterBlocks coefs cs := rfl
    rw [hcons, ih, Pred.get_set]
    by_cases hd : c = d <;> by_cases hc : c ∈ cs <;> simp [hd, hc]

theorem Pred.afterBlocks_congr (p : Pred) {coefs coefs' : Fin 4 → List Int} {cs : List (Fin 4)}
    (h : ∀ c ∈ cs, coefs c = coefs' c) : p.afterBlocks coefs cs = p.afterBlocks coefs' cs :=
  List.foldl_ext _ _ _ fun p c hc => by rw [h c hc]

/-- The quantised block that BAND codes at block column `bx` of component `c` (R207, R214). -/
def State.blockCoefs (s : State) (bx : Nat) (c : Fin 4) : List Int :=
  transform (extract s.pending s.width.toNat bx c) (s.qt (tq c))

/-- The bits BAND sends for that block (R238). -/
def State.blockBitsAt (s : State) (bx : Nat) (c : Fin 4) : List Bool :=
  blockBits (s.htDc (td c)) (s.htAc (ta c)) (s.pred.get c) (s.blockCoefs bx c)

theorem State.codeBlock_eq_push {s : State} (h : s.bitbuf.length ≤ 7) (bx : Nat) (c : Fin 4) :
    s.codeBlock bx c = s.push (s.pred.set c (numberAt (s.blockCoefs bx c) 0)) (s.blockBitsAt bx c) :=
  congrArg s.withCoder (Coder.encBlk_eq_pushBits (k := s.coder) h _ _ _ _)

/-- A block of one component leaves what is coded for another as it was. -/
theorem State.push_set_blockBitsAt (s : State) {c d : Fin 4} (hne : d ≠ c) (v : Int) (bits : List Bool) (bx : Nat) :
    (s.push (s.pred.set c v) bits).blockBitsAt bx d = s.blockBitsAt bx d := by
  have hpred : (s.push (s.pred.set c v) bits).pred.get d = s.pred.get d := by
    rw [State.push_pred, Pred.get_set, if_neg hne]
  rw [State.blockBitsAt, hpred]
  rfl

/-- Blocks of different components are coded each on its own predictor. -/
theorem State.foldl_codeBlock_eq_push {s : State} (h : s.bitbuf.length ≤ 7) (bx : Nat) {cs : List (Fin 4)}
    (hcs : cs.Nodup) : cs.foldl (fun s c => s.codeBlock bx c) s =
      s.push (s.pred.afterBlocks (s.blockCoefs bx) cs) (cs.flatMap (s.blockBitsAt bx)) := by
  induction cs generalizing s with
  | nil => exact (State.push_nil h).symm
  | cons c cs ih =>
    obtain ⟨hc, hcs⟩ := List.nodup_cons.mp hcs
    have hbits := List.flatMap_congr fun d hd =>
      s.push_set_blockBitsAt (ne_of_mem_of_not_mem hd hc) (numberAt (s.blockCoefs bx c) 0) (s.blockBitsAt bx c) bx
    rw [List.foldl_cons, State.codeBlock_eq_push h, ih (State.push_bitbuf_length ..) hcs, hbits, State.push_push]
    rfl

/-- An MCU is one block of each component. -/
theorem State.codeMcu_eq_push {s : State} (h : s.bitbuf.length ≤ 7) (bx : Nat) :
    s.codeMcu bx = s.push (s.pred.afterBlocks (s.blockCoefs bx) (comps s.ncomp))
      ((comps s.ncomp).flatMap (s.blockBitsAt bx)) :=
  State.foldl_codeBlock_eq_push h bx (comps_nodup _)

end Sys2Proof.Machine
end

section
/-! SUPPORT. The rows that PENDING holds and the blocks EXTRACT forms of them, as the padded image has them (R196). -/

namespace Sys2Proof.Machine

section
variable (s : State) (pixels : List Byte)

/-- Row `y` of the converted image (R196). -/
def State.imageRow (y : Nat) : Row := convertRow s.colorType s.width.toNat pixels (y * s.stride)

/-- The first `k` rows of band `b` of the image, its last row repeated below it (R196). -/
def State.bandRows (b k : Nat) : List Row :=
  (List.range k).map fun r => s.imageRow pixels (min (8 * b + r) (s.height.toNat - 1))

@[simp] theorem State.bandRows_length (b k : Nat) : (s.bandRows pixels b k).length = k := by simp [State.bandRows]

end

variable {s : State} {pixels : List Byte}

/-- One more row of the image. -/
theorem State.bandRows_succ {b k : Nat} (h : 8 * b + k < s.height.toNat) :
    s.bandRows pixels b (k + 1) = s.bandRows pixels b k ++ [s.imageRow pixels (8 * b + k)] := by
  rw [State.bandRows, List.range_succ, List.map_append, List.map_singleton, Nat.min_eq_left (by omega), State.bandRows]

/-- Below the image's last row that row is repeated (R194). -/
theorem State.bandRows_add {b k : Nat} (h : 8 * b + k = s.height.toNat) (j : Nat) :
    s.bandRows pixels b (k + j) =
      s.bandRows pixels b k ++ List.replicate j (s.imageRow pixels (s.height.toNat - 1)) := by
  induction j with
  | zero => exact (List.append_nil _).symm
  | succ j ih =>
    have hbelow : min (8 * b + (k + j)) (s.height.toNat - 1) = s.height.toNat - 1 := by omega
    rw [← Nat.add_assoc, State.bandRows, List.range_succ, List.map_append, List.map_singleton, hbelow,
      ← State.bandRows, ih, List.replicate_succ', List.append_assoc]

/-- PAD_BAND completes the band the image ends in (R194). -/
theorem State.padBand_of_bandRows {t : State} {b k : Nat} (hpend : t.pending = s.bandRows pixels b k)
    (hend : 8 * b + k = s.height.toNat) (hpos : 0 < k) (hk : k ≤ 8) :
    t.padBand = t.withPending (s.bandRows pixels b 8) := by
  have hlast : t.pending.getLastD [] = s.imageRow pixels (s.height.toNat - 1) := by
    obtain ⟨j, rfl⟩ := Nat.exists_eq_add_one_of_ne_zero hpos.ne'
    rw [hpend, State.bandRows_succ (by omega), List.getLastD_concat, ← hend, ← Nat.add_assoc, Nat.add_sub_cancel]
  rw [State.padBand, hlast, hpend, State.bandRows_length, ← State.bandRows_add hend, Nat.add_sub_cancel' hk]

/-- Sample `x` of plane `c` of a converted row (R181). -/
theorem State.imageRow_getD {c x : Nat} (hc : c < s.ncomp) (hx : x < s.width.toNat) (y : Nat) (d : Byte) :
    ((s.imageRow pixels y).getD c []).getD x d = imageSample s.colorType s.width.toNat pixels y c x := by
  have hoff : y * s.stride + x * s.colorType.bpp = (y * s.width.toNat + x) * s.colorType.bpp := by
    rw [State.stride]
    ring
  simp [State.imageRow, List.getD, convertRow_getElem? hc, hx, hoff, imageSample]

theorem State.memReadPend_bandRows {b r c x : Nat} (hr : r < 8) (hc : c < s.ncomp) (hx : x < s.width.toNat) :
    memReadPend (s.bandRows pixels b 8) r c x =
      imageSample s.colorType s.width.toNat pixels (min (8 * b + r) (s.height.toNat - 1)) c x := by
  have hrow : (s.bandRows pixels b 8).getD r [] = s.imageRow pixels (min (8 * b + r) (s.height.toNat - 1)) := by
    simp [State.bandRows, List.getD, hr]
  rw [memReadPend, hrow, State.imageRow_getD hc hx]

/-- EXTRACT forms of a full band the blocks of the padded image (R196, R207). -/
theorem State.extract_bandRows (hw : 1 ≤ s.width.toNat) {c : Fin 4} (hc : c.val < s.ncomp) (b bx : Nat) :
    extract (s.bandRows pixels b 8) s.width.toNat bx c =
      imageBlock s.colorType s.width.toNat s.height.toNat pixels b bx c := by
  refine List.map_congr_left fun i hi => ?_
  have hi := List.mem_range.mp hi
  rw [blockSample, State.memReadPend_bandRows (by omega) hc (by omega)]

end Sys2Proof.Machine
end

section
/-! SUPPORT. The scan of a whole image (R193, R196): when a band is complete, the bits of its MCUs have been sent, each
DC predicted from the MCU before; at FINISH those of the padded image have. -/

namespace Sys2Proof.Machine

/-- The state is ready for an image's first row, as CONSTRUCT leaves it (R141). -/
structure State.AtFirstRow (s : State) : Prop where
  configured : s.Configured
  pending : s.pending = []
  rowsReceived : s.rowsReceived = 0
  pred : ∀ c, s.pred.get c = 0
  bitbuf : s.bitbuf = []

section
variable (s : State) (pixels : List Byte)

/-- `imageCoefs` of the configured image. -/
def State.mcuCoefs (m : Nat) (c : Fin 4) : List Int :=
  imageCoefs s.colorType s.width.toNat s.height.toNat s.quality.toNat pixels m c

/-- The bits of the `m`-th MCU of the configured image. -/
def State.mcuBits (m : Nat) : List Bool :=
  (comps s.ncomp).flatMap
    (imageBlockBits s.colorType s.width.toNat s.height.toNat s.quality.toNat pixels m)

/-- The predictors after `m` MCUs of the image. -/
def State.predAfter : Nat → Pred
  | 0 => s.pred
  | m + 1 => (State.predAfter m).afterBlocks (s.mcuCoefs pixels m) (comps s.ncomp)

/-- The state after `m` MCUs of the image and `n` rows, of which `rows` are pending. -/
def State.scan (m : Nat) (rows : List Row) (n : Nat) : State :=
  ((s.push (s.predAfter pixels m) ((List.range m).flatMap (s.mcuBits pixels))).withPending rows).withRowsReceived n

theorem State.scan_bitbuf_length (m : Nat) (rows : List Row) (n : Nat) :
    (s.scan pixels m rows n).bitbuf.length ≤ 7 := s.push_bitbuf_length _ _

end

variable {s : State} (hs : s.AtFirstRow) {pixels : List Byte}
include hs

/-! ## MCUs -/

theorem State.AtFirstRow.predAfter_get (m : Nat) {c : Fin 4} (hc : c ∈ comps s.ncomp) :
    (s.predAfter pixels m).get c = if m = 0 then 0 else numberAt (s.mcuCoefs pixels (m - 1) c) 0 := by
  cases m with
  | zero => exact hs.pred c
  | succ m =>
    rw [State.predAfter, Pred.afterBlocks_get, if_pos hc]
    rfl

/-- With band `b` pending, BAND's block column `bx` has the coefficients of the image's MCU there. -/
theorem State.AtFirstRow.scan_blockCoefs {b bx : Nat} (hbx : bx < s.blocksW) (n : Nat) {c : Fin 4}
    (hc : c ∈ comps s.ncomp) :
    (s.scan pixels (b * s.blocksW + bx) (s.bandRows pixels b 8) n).blockCoefs bx c =
      s.mcuCoefs pixels (b * s.blocksW + bx) c := by
  obtain ⟨hw, -, -, -, hluma, hchroma, -⟩ := hs.configured
  have hband : (b * s.blocksW + bx) / ceil8 s.width.toNat = b := by
    change (b * s.blocksW + bx) / s.blocksW = b
    rw [Nat.mul_comm, Nat.mul_add_div (by omega), Nat.div_eq_of_lt hbx, Nat.add_zero]
  have hcol : (b * s.blocksW + bx) % ceil8 s.width.toNat = bx := by
    change (b * s.blocksW + bx) % s.blocksW = bx
    rw [Nat.mul_comm, Nat.mul_add_mod, Nat.mod_eq_of_lt hbx]
  rw [State.mcuCoefs, imageCoefs, hband, hcol, ← State.extract_bandRows hw (mem_comps.mp hc), ← hluma, ← hchroma]
  rfl

/-- So its blocks send the bits of that MCU's. -/
theorem State.AtFirstRow.scan_blockBitsAt {b bx : Nat} (hbx : bx < s.blocksW) (n : Nat) {c : Fin 4}
    (hc : c ∈ comps s.ncomp) :
    (s.scan pixels (b * s.blocksW + bx) (s.bandRows pixels b 8) n).blockBitsAt bx c =
      imageBlockBits s.colorType s.width.toNat s.height.toNat s.quality.toNat pixels (b * s.blocksW + bx) c := by
  obtain ⟨-, -, -, -, -, -, hdc0, hac0, hdc1, hac1⟩ := hs.configured
  have hpred := hs.predAfter_get (pixels := pixels) (b * s.blocksW + bx) hc
  rw [State.blockBitsAt, hs.scan_blockCoefs hbx n hc, imageBlockBits, ← hdc0, ← hac0, ← hdc1, ← hac1]
  exact congrArg (blockBits (s.htDc (td c)) (s.htAc (ta c)) · _) hpred

/-- An MCU of BAND is the image's next MCU. -/
theorem State.AtFirstRow.scan_codeMcu {b bx : Nat} (hbx : bx < s.blocksW) (n : Nat) :
    (s.scan pixels (b * s.blocksW + bx) (s.bandRows pixels b 8) n).codeMcu bx =
      s.scan pixels (b * s.blocksW + bx + 1) (s.bandRows pixels b 8) n := by
  have hcoefs := fun c hc => hs.scan_blockCoefs (pixels := pixels) (b := b) hbx n (c := c) hc
  have hbits := List.flatMap_congr fun c hc => hs.scan_blockBitsAt (pixels := pixels) (b := b) hbx n (c := c) hc
  rw [State.codeMcu_eq_push (s.scan_bitbuf_length ..)]
  change State.push _ (Pred.afterBlocks _ _ (comps s.ncomp)) ((comps s.ncomp).flatMap _) = _
  rw [Pred.afterBlocks_congr _ hcoefs, hbits, State.scan, State.scan, List.range_succ, List.flatMap_append,
    List.flatMap_singleton, ← State.push_push]
  rfl

/-- The first `j` block columns of BAND are the first `j` MCUs of the band. -/
theorem State.AtFirstRow.scan_foldl_codeMcu (b n : Nat) {j : Nat} (hj : j ≤ s.blocksW) :
    (List.range j).foldl State.codeMcu (s.scan pixels (b * s.blocksW) (s.bandRows pixels b 8) n) =
      s.scan pixels (b * s.blocksW + j) (s.bandRows pixels b 8) n := by
  induction j with
  | zero => rfl
  | succ j ih =>
    rw [List.range_succ, List.foldl_append, ih (by omega), List.foldl_cons, List.foldl_nil, hs.scan_codeMcu hj,
      Nat.add_assoc]

/-- BAND codes the MCUs of its band. -/
theorem State.AtFirstRow.scan_band (b n : Nat) :
    (s.scan pixels (b * s.blocksW) (s.bandRows pixels b 8) n).band = s.scan pixels ((b + 1) * s.blocksW) [] n := by
  change State.withPending ((List.range s.blocksW).foldl _ _) [] = _
  rw [hs.scan_foldl_codeMcu b n le_rfl, Nat.succ_mul]
  rfl

/-! ## Rows -/

/-- After `n` rows the complete bands are coded, and the rows below them are pending. -/
theorem State.AtFirstRow.appendRows_eq_scan {n : Nat} (hn : n ≤ s.height.toNat) :
    s.appendRows pixels n = s.scan pixels (n / 8 * s.blocksW) (s.bandRows pixels (n / 8) (n % 8)) n := by
  induction n with
  | zero =>
    rw [Nat.zero_div, Nat.zero_mul]
    change s = ((s.push s.pred []).withPending []).withRowsReceived 0
    rw [State.push_nil (by simp [hs.bitbuf]), ← hs.pending, ← hs.rowsReceived]
    rfl
  | succ n ih =>
    have hbuffer : (s.scan pixels (n / 8 * s.blocksW) (s.bandRows pixels (n / 8) (n % 8)) n).bufferRow pixels
        (n * s.stride) = s.scan pixels (n / 8 * s.blocksW) (s.bandRows pixels (n / 8) (n % 8 + 1)) (n + 1) := by
      rw [State.bandRows_succ (by omega), Nat.div_add_mod]
      rfl
    rw [State.appendRows_succ, ih (by omega)]
    by_cases h8 : n % 8 + 1 = 8
    · have hdiv : (n + 1) / 8 = n / 8 + 1 := by omega
      have hmod : (n + 1) % 8 = 0 := by omega
      rw [State.appendRow_of_eighth (by rw [hbuffer]; exact (s.bandRows_length ..).trans h8), hbuffer, h8,
        hs.scan_band, hdiv, hmod]
      rfl
    · have hdiv : (n + 1) / 8 = n / 8 := by omega
      have hmod : (n + 1) % 8 = n % 8 + 1 := by omega
      rw [State.appendRow_of_not_eighth (by rw [hbuffer]; exact fun h => h8 ((s.bandRows_length ..).symm.trans h)),
        hbuffer, hdiv, hmod]

/-- FINISH codes the band the image ends in, padded, if there is one (R143, R194). -/
theorem State.AtFirstRow.lastBand_appendRows :
    (s.appendRows pixels s.height.toNat).lastBand =
      s.scan pixels (ceil8 s.height.toNat * s.blocksW) [] s.height.toNat := by
  rw [hs.appendRows_eq_scan le_rfl, State.lastBand]
  have hlen : (s.scan pixels (s.height.toNat / 8 * s.blocksW)
      (s.bandRows pixels (s.height.toNat / 8) (s.height.toNat % 8)) s.height.toNat).pending.length =
        s.height.toNat % 8 := s.bandRows_length ..
  rw [hlen]
  by_cases hwhole : s.height.toNat % 8 = 0
  · have hceil : ceil8 s.height.toNat = s.height.toNat / 8 := by
      unfold ceil8
      omega
    rw [if_neg (by omega), hceil, hwhole]
    rfl
  · have hceil : ceil8 s.height.toNat = s.height.toNat / 8 + 1 := by
      unfold ceil8
      omega
    rw [if_pos (by omega), State.padBand_of_bandRows rfl (Nat.div_add_mod _ _) (by omega) (by omega), hceil,
      ← hs.scan_band]
    rfl

/-! ## The stream -/

/-- What FINISH has in OUT before EOI, when all rows were taken: the padded bits of the image, stuffed (R110). -/
theorem State.AtFirstRow.endScan_out :
    (s.appendRows pixels s.height.toNat).lastBand.flush.out = s.out ++ stuff (packBytes (padOnes
      (imageBits s.colorType s.width.toNat s.height.toNat s.quality.toNat pixels))) := by
  rw [hs.lastBand_appendRows]
  exact State.push_flush_out hs.bitbuf _ _

end Sys2Proof.Machine
end

section
/-! SUPPORT. CONSTRUCT, one ENCODE_STRIP of all the pixels, and FINISH return the stream of the whole-image view (R100,
R196). -/

namespace Sys2Proof.Machine

/-- What was in OUT and what FINISH then returns are together the whole scan and EOI. -/
theorem State.out_append_closeStream {t : State} (h : t.bitbuf.length ≤ 7) :
    t.out ++ (t.withOut []).closeStream.responseBytes = t.lastBand.flush.out ++ eoiBytes := by
  have hself : (t.withOut []).reframe t.lifecycle t.response t.out = t := by
    change { t with out := t.out ++ [] } = t
    rw [List.append_nil]
  have hblind := (State.endScan_scanOp (s := t.withOut []) h).blind t.lifecycle t.response t.out
  simp only [hself] at hblind
  rw [hblind]
  exact (List.append_assoc ..).symm

section
variable (s : State) (w h : Half) (ct : ColorType) (q : BitVec 7)

@[simp] theorem State.construct_width : (s.construct w h ct q).width = w := by
  rw [State.construct_eq]
  rfl

@[simp] theorem State.construct_colorType : (s.construct w h ct q).colorType = ct := by
  rw [State.construct_eq]
  rfl

@[simp] theorem State.construct_quality : (s.construct w h ct q).quality = q := by
  rw [State.construct_eq]
  rfl

end

/-- A legal width or height is kept by its register (R22, R23). -/
theorem setWidth_toNat_of_legal {v : Quad} (hv : v.toNat ≤ 65535) : (v.setWidth 16).toNat = v.toNat := by
  rw [BitVec.toNat_setWidth, Nat.mod_eq_of_lt (by omega)]

/-- CONSTRUCT leaves the state ready for the image's first row. -/
theorem LegalConfig.construct_atFirstRow {w h : Quad} {ct q : Byte} {c : ColorType} (hc : LegalConfig w h ct q c)
    (s : State) : (s.construct (w.setWidth 16) (h.setWidth 16) c (q.setWidth 7)).AtFirstRow := by
  have hinv := State.Inv.construct s hc
  obtain ⟨-, -, -, hconf, -, hfresh, -⟩ := hinv
  obtain ⟨hrows, hpend, hbits, -⟩ := hfresh rfl
  refine ⟨(hconf (by simp)).1, hpend, hrows, fun d => ?_, hbits⟩
  rw [State.construct_eq]
  fin_cases d <;> rfl

/-- The image as one strip, and FINISH, from the state CONSTRUCT leaves. -/
theorem State.AtFirstRow.runCommands_image {s : State} (hs : s.AtFirstRow) (hgate : s.encodeGate = none)
    {pixels : List Byte} (hlen : pixels.length = s.height.toNat * s.stride) :
    ∃ t, runCommands [.encodeStrip pixels, .finish] s = some (t, s.out ++ stuff (packBytes (padOnes
      (imageBits s.colorType s.width.toNat s.height.toNat s.quality.toNat pixels))) ++ eoiBytes) := by
  have hbits : s.bitbuf.length ≤ 7 := by simp [hs.bitbuf]
  have hstride : 0 < s.stride := Nat.mul_pos hs.configured.1 s.colorType.bpp_pos
  have hcount : pixels.length / s.stride = s.height.toNat := by rw [hlen, Nat.mul_div_cancel _ hstride]
  have hone : [some pixels].flatMap scriptPixels = pixels := List.append_nil _
  have hrun := runCommands_script_finish (script := [some pixels]) (by simp) hgate hbits
    (by simp [scriptPixels, hlen]) (by rw [hone, hs.rowsReceived, hcount, Nat.zero_add])
  rw [hone, State.out_append_closeStream (State.takeRows_scanOp hbits pixels).held, State.takeRows, hcount,
    hs.endScan_out] at hrun
  exact ⟨_, hrun⟩

/-- Settles O26: the strip's rows leave the complete bands of the image coded, FINISH codes the padded rest, and
before them OUT holds the header. -/
theorem streamIsImageEncoding : Obligations.StreamIsImageEncoding := by
  unfold Obligations.StreamIsImageEncoding
  intro s w h ct q c pixels hc hlen
  have hstart := hc.construct_atFirstRow s
  have hexec := exec_construct_of_legal hc s
  have hquality := hc.setWidth_quality
  obtain ⟨-, hw, -, hh, -⟩ := hc
  obtain ⟨t, hrun⟩ := hstart.runCommands_image rfl (pixels := pixels) <| by
    rw [State.construct_height, State.construct_stride, setWidth_toNat_of_legal hw, setWidth_toNat_of_legal hh, hlen]
  refine ⟨t, ?_⟩
  rw [runCommands_cons hexec hrun]
  simp [imageStream, hquality]

end Sys2Proof.Machine
end

section
/-! SUPPORT. QSCALE (R205): its scale falls as the quality grows, and an entry grows with the scale. -/

namespace Sys2Proof.Machine

theorem qualityScale_of_legal {q : Nat} (h1 : 1 ≤ q) (h100 : q ≤ 100) :
    qualityScale q = if q < 50 then 5000 / q else 200 - 2 * q :=
  if_pos ⟨h1, h100⟩

/-- Settles O37: by the entry of the table at an index of the base table, and the scale of a legal quality. -/
theorem qscaleEntries : Obligations.QscaleEntries := by
  unfold Obligations.QscaleEntries
  intro s base q hlen h1 h100
  refine ⟨qscale base q, rfl, qscale_length base q, fun i b hb => ?_⟩
  obtain ⟨hi, -⟩ := List.getElem?_eq_some_iff.mp hb
  refine ⟨_, qscale_getElem? base q (by omega), ?_⟩
  rw [qscaleEntry_toNat, countAt_of_getElem? base i b hb, qualityScale_of_legal h1 h100]

/-- Below 50 the scale is at least 5000 div 49 = 102, from 50 on at most 100. -/
theorem qualityScale_antitone {q1 q2 : Nat} (h1 : 1 ≤ q1) (h12 : q1 ≤ q2) (h100 : q2 ≤ 100) :
    qualityScale q2 ≤ qualityScale q1 := by
  have hdiv : ∀ q, q1 ≤ q → 5000 / q ≤ 5000 / q1 := fun q hq => Nat.div_le_div_left hq h1
  rw [qualityScale_of_legal h1 (h12.trans h100), qualityScale_of_legal (h1.trans h12) h100]
  by_cases hlow : q1 < 50
  · have hat49 := hdiv 49 (by omega)
    have hat2 := hdiv q2 h12
    rw [if_pos hlow]
    split <;> omega
  · rw [if_neg hlow, if_neg (by omega)]
    omega

theorem qscaleEntry_toNat_mono {scale scale' : Nat} (h : scale ≤ scale') (base : Nat) :
    (qscaleEntry scale base).toNat ≤ (qscaleEntry scale' base).toNat := by
  rw [qscaleEntry_toNat, qscaleEntry_toNat]
  gcongr

/-- Settles O38: the greater quality has the lesser scale. -/
theorem qscaleMonotone : Obligations.QscaleMonotone := by
  unfold Obligations.QscaleMonotone
  intro base q1 q2 i e1 e2 h1 h12 h100 he1 he2
  obtain ⟨hi, -⟩ := List.getElem?_eq_some_iff.mp he1
  rw [qscale_length] at hi
  rw [qscale_getElem? base _ hi, Option.some_inj] at he1 he2
  subst he1 he2
  exact qscaleEntry_toNat_mono (qualityScale_antitone h1 h12 h100) _

end Sys2Proof.Machine
end

section
/-! SUPPORT. EXTRACT (R207, R208): its entries, each read from a sample that PENDING holds. -/

namespace Sys2Proof.Machine

theorem memReadPend_of_getElem? {pending : List Row} {r c x : Nat} {row : Row} {plane : List Byte} {v : Byte}
    (hrow : pending[r]? = some row) (hplane : row[c]? = some plane) (hv : plane[x]? = some v) :
    memReadPend pending r c x = v := by
  simp [memReadPend, List.getD, hrow, hplane, hv]

@[simp] theorem extract_length (pending : List Row) (width bx : Nat) (c : Fin 4) :
    (extract pending width bx c).length = 64 := by simp [extract]

theorem extract_getElem? (pending : List Row) (width bx : Nat) (c : Fin 4) {r k : Nat} (hr : r < 8) (hk : k < 8) :
    (extract pending width bx c)[8 * r + k]? = some (blockSample pending width bx c r k) := by
  have hi : 8 * r + k < 64 := by omega
  have hdiv : (8 * r + k) / 8 = r := by omega
  have hmod : (8 * r + k) % 8 = k := by omega
  simp [extract, hi, hdiv, hmod]

/-- Settles O39: EXTRACT completes on a full band, and each of its entries is a sample of PENDING. -/
theorem extractBlock : Obligations.ExtractBlock := by
  unfold Obligations.ExtractBlock
  intro s bx c hfull _ hc
  refine ⟨_, exec_extract hfull hc, extract_length _ _ _ _, fun r k row plane v hr hk hrow hplane hv => ?_⟩
  rw [extract_getElem? _ _ _ _ hr hk, blockSample, memReadPend_of_getElem? hrow hplane hv]

end Sys2Proof.Machine
end

section
/-! SUPPORT. FDCT1D and DESCALE (R209, R211). -/

namespace Sys2Proof.Machine

/-- Outputs 0 and 4 of FDCT1D, from their sum: scaled by 4 in pass 1, and back in pass 2 (R209). -/
def evenOutput (first : Bool) (x : Int) : Int := if first then x * 4 else descale x 2

/-- The other outputs of FDCT1D, from their sum of products: one rounding (R209). -/
def roundedOutput (first : Bool) (x : Int) : Int := descale x (if first then 11 else 15)

@[simp] theorem evenOutput_zero (first : Bool) : evenOutput first 0 = 0 := by cases first <;> decide

@[simp] theorem roundedOutput_zero (first : Bool) : roundedOutput first 0 = 0 := by cases first <;> decide

/-- R209's sums expanded: each output is one linear combination of the operands, then one rounding. -/
theorem fdct1d_eq_combinations (first : Bool) (d0 d1 d2 d3 d4 d5 d6 d7 : Int) :
    fdct1d [d0, d1, d2, d3, d4, d5, d6, d7] first =
      [evenOutput first (d0 + d1 + d2 + d3 + d4 + d5 + d6 + d7),
        roundedOutput first (11363 * (d0 - d7) + 9633 * (d1 - d6) + 6437 * (d2 - d5) + 2260 * (d3 - d4)),
        roundedOutput first (10703 * (d0 - d3 - d4 + d7) + 4433 * (d1 - d2 - d5 + d6)),
        roundedOutput first (9633 * (d0 - d7) - 2259 * (d1 - d6) - 11362 * (d2 - d5) - 6436 * (d3 - d4)),
        evenOutput first (d0 - d1 - d2 + d3 + d4 - d5 - d6 + d7),
        roundedOutput first (6437 * (d0 - d7) - 11362 * (d1 - d6) + 2261 * (d2 - d5) + 9633 * (d3 - d4)),
        roundedOutput first (4433 * (d0 - d3 - d4 + d7) - 10704 * (d1 - d2 - d5 + d6)),
        roundedOutput first (2260 * (d0 - d7) - 6436 * (d1 - d6) + 9633 * (d2 - d5) - 11363 * (d3 - d4))] := by
  have hread : fdct1d [d0, d1, d2, d3, d4, d5, d6, d7] first = fdct8 first d0 d1 d2 d3 d4 d5 d6 d7 := rfl
  rw [hread, fdct8]
  simp only [List.cons.injEq, and_true]
  refine ⟨congrArg (evenOutput first) ?_, congrArg (roundedOutput first) ?_, congrArg (roundedOutput first) ?_,
    congrArg (roundedOutput first) ?_, congrArg (evenOutput first) ?_, congrArg (roundedOutput first) ?_,
    congrArg (roundedOutput first) ?_, congrArg (roundedOutput first) ?_⟩ <;> ring

/-- Settles O40: by the outputs as linear combinations, in either pass. -/
theorem fdct1dOutputs : Obligations.Fdct1dOutputs := by
  unfold Obligations.Fdct1dOutputs
  intro s first d0 d1 d2 d3 d4 d5 d6 d7
  refine ⟨_, _, _, _, _, _, _, _, congrArg (fun o => Host.Outcome.next (s.giveNumbers o))
    (fdct1d_eq_combinations first d0 d1 d2 d3 d4 d5 d6 d7), ?pass1, ?pass2, ?rounded⟩
  case pass1 =>
    rintro rfl
    exact ⟨mul_comm _ _, mul_comm _ _⟩
  case pass2 =>
    rintro rfl
    exact ⟨rfl, rfl⟩
  case rounded =>
    rintro _ rfl
    exact ⟨rfl, rfl, rfl, rfl, rfl, rfl⟩

/-- Half of an even divisor added before the division rounds to the nearest integer, a tie upward. -/
theorem ediv_add_half_nearest (x : Int) {p : Int} (hp : 0 < p) :
    2 * x < (2 * ((x + p) / (2 * p)) + 1) * (2 * p) ∧ (2 * ((x + p) / (2 * p)) - 1) * (2 * p) ≤ 2 * x := by
  have hle := Int.ediv_mul_le (x + p) (b := 2 * p) (by omega)
  have hlt := Int.lt_ediv_add_one_mul_self (x + p) (b := 2 * p) (by omega)
  constructor <;> linarith

/-- Settles O41: DESCALE adds half of the divisor before it divides. -/
theorem descaleRoundsHalfUp : Obligations.DescaleRoundsHalfUp := by
  unfold Obligations.DescaleRoundsHalfUp
  intro x n hn
  obtain ⟨k, rfl⟩ := Nat.exists_eq_add_of_le' hn
  have hpow : ((2 ^ (k + 1) : Nat) : Int) = 2 * ((2 ^ k : Nat) : Int) := by
    push_cast
    ring
  rw [descale, asr, Nat.add_sub_cancel, hpow]
  exact ediv_add_half_nearest x (by positivity)

end Sys2Proof.Machine
end

section
/-! SUPPORT. FDCT (R210): the rows of pass 1, the columns of pass 2, the coefficients of a constant block. -/

namespace Sys2Proof.Machine

/-! ## Lists read by row and by column -/

/-- Joined rows of one length, cut again, are the rows. -/
theorem take_drop_flatMap {α β : Type} {f : α → List β} {m : Nat} (hf : ∀ a, (f a).length = m) {as : List α}
    {r : Nat} {a : α} (h : as[r]? = some a) : ((as.flatMap f).drop (m * r)).take m = f a := by
  induction as generalizing r with
  | nil => simp at h
  | cons a' as ih =>
    cases r with
    | zero =>
      obtain rfl : a' = a := by simpa using h
      simp [hf]
    | succ r =>
      rw [List.flatMap_cons, Nat.mul_succ, Nat.add_comm, ← List.drop_drop, List.drop_left' (hf a')]
      exact ih (by simpa using h)

theorem numberAt_eq_getD {xs : List Int} {i : Nat} (h : i < xs.length) : numberAt xs i = xs.getD i 0 := by
  simp [numberAt, List.getD, h]

theorem getElem?_eq_some_numberAt {xs : List Int} {i : Nat} (h : i < xs.length) : xs[i]? = some (numberAt xs i) := by
  simp [numberAt, List.getD, h]

/-! ## The two passes -/

@[simp] theorem fdctRows_length (blk : List Int) : (fdctRows blk).length = 64 := by simp [fdctRows]

@[simp] theorem fdct_length (blk : List Int) : (fdct blk).length = 64 := by simp [fdct, fdctColumns]

/-- Row `r` after pass 1. -/
theorem fdctRows_row (blk : List Int) {r : Nat} (hr : r < 8) :
    ((fdctRows blk).drop (8 * r)).take 8 = fdct1d (blockRow blk r) true :=
  take_drop_flatMap (fun r => fdct1d_length (blockRow blk r) true) (by simp [hr])

/-- Entry `(r, k)` after pass 2 is output `r` of column `k`. -/
theorem fdctColumns_getD (ws : List Int) {r k : Nat} (hr : r < 8) (hk : k < 8) :
    (fdctColumns ws).getD (8 * r + k) 0 = numberAt (fdct1d (blockColumn ws k) false) r := by
  have hi : 8 * r + k < 64 := by omega
  have hdiv : (8 * r + k) / 8 = r := by omega
  have hmod : (8 * r + k) % 8 = k := by omega
  rw [numberAt_eq_getD (by simpa using hr)]
  simp [fdctColumns, List.getD, hi, hdiv, hmod, hk]

/-- Column `k` after pass 2. -/
theorem fdctColumns_column (ws : List Int) {k : Nat} (hk : k < 8) :
    (List.range 8).map (fun r => (fdctColumns ws).getD (8 * r + k) 0) = fdct1d (blockColumn ws k) false := by
  rw [← numbersOf_self 8 (fdct1d (blockColumn ws k) false) (fdct1d_length _ _)]
  exact List.map_congr_left fun r hr => fdctColumns_getD ws (List.mem_range.mp hr) hk

theorem blockColumn_eq_getD {ws : List Int} (hws : ws.length = 64) {k : Nat} (hk : k < 8) :
    blockColumn ws k = (List.range 8).map (fun r => ws.getD (8 * r + k) 0) :=
  List.map_congr_left fun r hr => numberAt_eq_getD (by have := List.mem_range.mp hr; omega)

/-- Settles O42: the table between is the result of pass 1. -/
theorem fdctRowsThenColumns : Obligations.FdctRowsThenColumns := by
  unfold Obligations.FdctRowsThenColumns
  intro s blk
  refine ⟨fdctRows blk, fdct blk, fdctRows_length blk, fdct_length blk, rfl, fun r hr => ?_, fun k hk => ?_⟩
  · rw [fdctRows_row blk hr]
    rfl
  · rw [← blockColumn_eq_getD (fdctRows_length blk) hk, fdct, fdctColumns_column _ hk]
    rfl

/-! ## The DC coefficient, and the constant block -/

/-- A block is its rows. -/
theorem flatMap_blockRow {blk : List Int} (h : blk.length = 64) : (List.range 8).flatMap (blockRow blk) = blk :=
  numbersOf_self 64 blk h

theorem sum_blockRow {blk : List Int} (h : blk.length = 64) :
    ((List.range 8).map (fun r => (blockRow blk r).sum)).sum = blk.sum := by
  conv_rhs => rw [← flatMap_blockRow h, List.flatMap, List.sum_flatten, List.map_map]
  rfl

theorem evenOutput_eight_mul (first : Bool) (v : Int) :
    evenOutput first (8 * v) = if first then 32 * v else 2 * v := by
  cases first
  · change (8 * v + 2) / 4 = 2 * v
    omega
  · change 8 * v * 4 = 32 * v
    ring

/-- FDCT1D of eight equal numbers (R209): in every combination but the first the operands cancel. -/
theorem fdct1d_replicate (v : Int) (first : Bool) :
    fdct1d (List.replicate 8 v) first = (if first then 32 * v else 2 * v) :: List.replicate 7 0 := by
  have hsum : v + v + v + v + v + v + v + v = 8 * v := by ring
  have hlist : List.replicate 8 v = [v, v, v, v, v, v, v, v] := rfl
  rw [hlist, fdct1d_eq_combinations, hsum, evenOutput_eight_mul]
  simp [List.replicate]

theorem blockRow_replicate (v : Int) {r : Nat} (hr : r < 8) :
    blockRow (List.replicate 64 v) r = List.replicate 8 v := by
  refine List.eq_replicate_iff.mpr ⟨blockRow_length _ _, fun x hx => ?_⟩
  obtain ⟨k, hk, rfl⟩ := List.mem_map.mp hx
  have hk := List.mem_range.mp hk
  exact numberAt_of_getElem? _ _ _ (by rw [List.getElem?_replicate, if_pos (by omega)])

/-- A constant block after pass 1: each row holds its DC output only. -/
theorem fdctRows_replicate (v : Int) :
    fdctRows (List.replicate 64 v) = (List.range 8).flatMap (fun _ => (32 * v) :: List.replicate 7 0) := by
  refine List.flatMap_congr fun r hr => ?_
  rw [blockRow_replicate v (List.mem_range.mp hr), fdct1d_replicate]
  rfl

/-- The columns of eight rows that hold `x` and seven zeros. -/
theorem blockColumn_of_equalRows (x : Int) {k : Nat} (hk : k < 8) :
    blockColumn ((List.range 8).flatMap (fun _ => x :: List.replicate 7 0)) k =
      List.replicate 8 (if k = 0 then x else 0) := by
  interval_cases k <;> rfl

/-- A constant block's coefficients (R210): column 0 after pass 1 is constant, the other columns are 0. -/
theorem fdct_replicate (v : Int) : fdct (List.replicate 64 v) = (64 * v) :: List.replicate 63 0 := by
  have hcols : (List.range 8).map (fun k => fdct1d (blockColumn (fdctRows (List.replicate 64 v)) k) false) =
      (List.range 8).map (fun k => (if k = 0 then 64 * v else 0) :: List.replicate 7 0) := by
    refine List.map_congr_left fun k hk => ?_
    rw [fdctRows_replicate, blockColumn_of_equalRows _ (List.mem_range.mp hk), fdct1d_replicate]
    congr 1
    simp only [Bool.false_eq_true, if_false]
    split <;> ring
  rw [fdct, fdctColumns, hcols]
  rfl

/-- Settles O43: the rows' sums add up to the block's sum; a constant block is constant in each pass. -/
theorem fdctDcIsSum : Obligations.FdctDcIsSum := by
  unfold Obligations.FdctDcIsSum
  refine ⟨fun blk hlen => ?_, fdct_replicate⟩
  rw [getElem?_eq_some_numberAt (by simp), fdct_dc, sum_blockRow hlen]

end Sys2Proof.Machine
end

section
/-! SUPPORT. QUANT and TRANSFORM (R212, R214). -/

namespace Sys2Proof.Machine

@[simp] theorem quant_length (coef : List Int) (table : List Byte) : (quant coef table).length = 64 := by simp [quant]

theorem quant_getElem? (coef : List Int) (table : List Byte) {i : Nat} (h : i < 64) :
    (quant coef table)[i]? = some (quantOne (numberAt coef i) (byteAt table i)) := by
  simp [quant, h]

theorem byteAt_of_getElem? {p : List Byte} {j : Nat} {e : Byte} (h : p[j]? = some e) : byteAt p j = e := by
  simp [byteAt, List.getD, h]

theorem quantOne_of_pos (x : Int) {e : Byte} (he : 1 ≤ e.toNat) :
    quantOne x e = if x < 0 then -(((x.natAbs + 4 * e.toNat) / (8 * e.toNat) : Nat) : Int)
      else (((x.natAbs + 4 * e.toNat) / (8 * e.toNat) : Nat) : Int) := by
  have hd : 8 * e.toNat ≠ 0 := by omega
  have hhalf : 8 * e.toNat / 2 = 4 * e.toNat := by omega
  simp only [quantOne, if_neg hd, hhalf]

/-- Half of the quantiser's divisor added to the magnitude rounds to the nearest integer, a tie upward (R212). -/
theorem quantDiv_nearest (a : Nat) {e : Nat} (he : 1 ≤ e) :
    8 * e * (2 * ((a + 4 * e) / (8 * e))) ≤ 2 * a + 8 * e ∧
      2 * a + 8 * e < 8 * e * (2 * ((a + 4 * e) / (8 * e)) + 2) := by
  have hle := Nat.mul_div_le (a + 4 * e) (8 * e)
  have hlt := Nat.lt_mul_div_succ (a + 4 * e) (b := 8 * e) (by omega)
  constructor <;> linarith

/-- Settles O44: an entry of at least 1 divides, with half of the divisor added to the magnitude. -/
theorem quantRoundsTiesAway : Obligations.QuantRoundsTiesAway := by
  unfold Obligations.QuantRoundsTiesAway
  intro s coef t
  refine ⟨quant coef (s.qt t), rfl, quant_length _ _, ?_⟩
  rintro i _ e hi rfl he hpos
  refine ⟨_, ?_, quantDiv_nearest _ hpos⟩
  rw [quant_getElem? coef _ hi, byteAt_of_getElem? he, quantOne_of_pos _ hpos]

/-- Settles O45: TRANSFORM is defined by the other two. -/
theorem transformIsQuantOfFdct : Obligations.TransformIsQuantOfFdct := by
  unfold Obligations.TransformIsQuantOfFdct
  exact fun _ _ _ => ⟨_, _, rfl, rfl, rfl⟩

end Sys2Proof.Machine
end

section
/-! SUPPORT. SIZE and MAG by themselves (R112, R234, R235). -/

namespace Sys2Proof.Machine

theorem sizeOfInt_bounds {v : Int} (hv : v ≠ 0) :
    2 ^ (sizeOfInt v - 1) ≤ v.natAbs ∧ v.natAbs < 2 ^ sizeOfInt v := by
  rw [sizeOfInt, if_neg hv]
  exact ⟨Nat.log2_self_le (Int.natAbs_ne_zero.mpr hv), Nat.lt_log2_self⟩

/-- Settles O49: the binary logarithm of |v| is one less than SIZE(v). -/
theorem sizeIsBitLength : Obligations.SizeIsBitLength := by
  unfold Obligations.SizeIsBitLength
  intro s v
  refine ⟨sizeOfInt v, rfl, ?_⟩
  by_cases hv : v = 0
  · exact .inl ⟨hv, if_pos hv⟩
  · exact .inr ⟨by simp [sizeOfInt, hv], sizeOfInt_bounds hv⟩

/-- What it says of `v` that `n` is SIZE(v), for a value that has bits. -/
theorem bounds_of_isSizeOf {v : Int} {n : Nat} (h : isSizeOf v n = true) (hv : v ≠ 0) :
    1 ≤ n ∧ 2 ^ (n - 1) ≤ v.natAbs ∧ v.natAbs < 2 ^ n := by
  by_cases hn : n = 0
  · simp [isSizeOf, hn, hv] at h
  · rw [isSizeOf, if_neg hn, Bool.and_eq_true, decide_eq_true_eq, decide_eq_true_eq] at h
    exact ⟨Nat.one_le_iff_ne_zero.mpr hn, h⟩

theorem magOfInt_eq_emod (v : Int) (n : Nat) :
    (magOfInt v n : Int) = (if 0 ≤ v then v else v - 1) % (2 ^ n : Nat) :=
  Int.toNat_of_nonneg (Int.emod_nonneg _ (by positivity))

/-- R235: the value bits of a positive value are the value. -/
theorem magOfInt_of_pos {v : Int} {n : Nat} (hv : 0 < v) (hlt : v.natAbs < 2 ^ n) : (magOfInt v n : Int) = v := by
  rw [magOfInt_eq_emod, if_pos hv.le, Int.emod_eq_of_lt hv.le (by omega)]

/-- R235: the value bits of a negative value are the value with 2^n - 1 added. -/
theorem magOfInt_of_neg {v : Int} {n : Nat} (hv : v < 0) (hlt : v.natAbs < 2 ^ n) :
    (magOfInt v n : Int) = v + (2 ^ n : Nat) - 1 := by
  rw [magOfInt_eq_emod, if_neg (by omega), ← Int.add_emod_right, Int.emod_eq_of_lt (by omega) (by omega)]
  omega

theorem bitsMsb_head? (m : Nat) {n : Nat} (hn : 1 ≤ n) : (bitsMsb m n).head? = some (m.testBit (n - 1)) := by
  obtain ⟨n, rfl⟩ := Nat.exists_eq_add_of_le' hn
  simp [bitsMsb, List.range_succ_eq_map]

/-- The first of the `n` bits of an `n`-bit number says whether it reaches half of the range. -/
theorem bitsMsb_head?_of_lt {m n : Nat} (hn : 1 ≤ n) (hm : m < 2 ^ n) :
    (bitsMsb m n).head? = some (decide (2 ^ (n - 1) ≤ m)) := by
  obtain ⟨n, rfl⟩ := Nat.exists_eq_add_of_le' hn
  rw [bitsMsb_head? m hn, Nat.add_sub_cancel]
  by_cases hhalf : 2 ^ n ≤ m
  · simp [Nat.testBit_of_two_pow_le_and_two_pow_add_one_gt hhalf hm, hhalf]
  · simp [Nat.testBit_lt_two_pow (Nat.lt_of_not_le hhalf), hhalf]

/-- Settles O50: a positive value of `n` bits fills the upper half of the range, and v + 2^n - 1 for a negative one
the lower half. -/
theorem magGivesValueBits : Obligations.MagGivesValueBits := by
  unfold Obligations.MagGivesValueBits
  intro s v n
  have hm := magOfInt_lt v n
  refine ⟨magOfInt v n, rfl, hm, magOfInt_eq_emod v n, fun hsize => ⟨fun hv => ?pos, fun hv => ?neg⟩, ?none⟩
  case pos =>
    obtain ⟨hn, hge, hlt⟩ := bounds_of_isSizeOf hsize hv.ne'
    have hval := magOfInt_of_pos hv hlt
    have hupper : 2 ^ (n - 1) ≤ magOfInt v n := by omega
    exact ⟨hval, by simp [bitsMsb_head?_of_lt hn hm, hupper]⟩
  case neg =>
    obtain ⟨hn, hge, hlt⟩ := bounds_of_isSizeOf hsize hv.ne
    have hval := magOfInt_of_neg hv hlt
    have hlower : ¬ 2 ^ (n - 1) ≤ magOfInt v n := by
      have hdouble : 2 ^ n = 2 * 2 ^ (n - 1) := by rw [← pow_succ', Nat.sub_add_cancel hn]
      omega
    exact ⟨by exact_mod_cast hval, by simp [bitsMsb_head?_of_lt hn hm, hlower]⟩
  case none =>
    rintro rfl
    rfl

end Sys2Proof.Machine
end

section
/-! SUPPORT. The entropy coder's instructions as one append of bits each (R233, R236 to R238). -/

namespace Sys2Proof.Machine

/-- Settles O51: the DC field is appended in one go, with `dc` in PRED[c]. -/
theorem encDcSendsDifference : Obligations.EncDcSendsDifference := by
  unfold Obligations.EncDcSendsDifference
  intro s dc c h
  refine ⟨_, rfl, congrArg Host.Outcome.next ?_⟩
  exact congrArg s.withCoder (Coder.encDc_eq_pushBits (k := s.coder) h (s.htDc (td c)) dc c)

/-- Settles O52: the fields of the coefficients and EOB are appended in one go. -/
theorem encAcSendsRuns : Obligations.EncAcSendsRuns := by
  unfold Obligations.EncAcSendsRuns
  intro s zz c h
  refine ⟨_, rfl, congrArg Host.Outcome.next ?_⟩
  exact congrArg s.withCoder (Coder.encAc_eq_pushBits (k := s.coder) h (s.htAc (ta c)) zz)

/-- Settles O53: the bits of the block are appended in one go, with its DC value in PRED[c]. -/
theorem encblkSendsBlock : Obligations.EncblkSendsBlock := by
  unfold Obligations.EncblkSendsBlock
  intro s q c h
  refine ⟨_, rfl, congrArg Host.Outcome.next ?_⟩
  exact congrArg s.withCoder (Coder.encBlk_eq_pushBits (k := s.coder) h (s.htDc (td c)) (s.htAc (ta c)) q c)

/-- Settles O54: a code's row is PUTBITS of the code, and PUTBITS appends bits in one go. -/
theorem huffmanRowsSendTheirCode : Obligations.HuffmanRowsSendTheirCode := by
  unfold Obligations.HuffmanRowsSendTheirCode
  intro i t v n s hcode h
  refine ⟨_, rfl, (exec_code hcode s).trans (congrArg Host.Outcome.next ?_)⟩
  exact congrArg s.withCoder (Coder.putBits_eq_pushBits (k := s.coder) h v n)

end Sys2Proof.Machine
end

section
/-! SUPPORT. HUFFGEN's codes (R232): each length's codes follow one another, and the first of the next length is twice
the one after the last. -/

namespace Sys2Proof.Machine

/-! ## The codes in order -/

/-- The sizes and codes of a specification's symbols in order, the lengths from `l` on and the codes from `c` on. -/
def canonicalCodes : (counts : List Nat) → (l c : Nat) → List (Nat × Nat)
  | [], _, _ => []
  | n :: counts, l, c => (List.range n).map (fun j => (l, c + j)) ++ canonicalCodes counts (l + 1) (2 * (c + n))

/-- The first code of the length `i` places on, when the codes of the next length begin at `c`. -/
def firstCode (c : Nat) (counts : List Nat) (i : Nat) : Nat :=
  c * 2 ^ i + ((List.range i).map (fun m => counts.getD m 0 * 2 ^ (i - m))).sum

@[simp] theorem firstCode_zero (c : Nat) (counts : List Nat) : firstCode c counts 0 = c := by simp [firstCode]

theorem firstCode_succ (c n : Nat) (counts : List Nat) (i : Nat) :
    firstCode c (n :: counts) (i + 1) = firstCode (2 * (c + n)) counts i := by
  simp [firstCode, List.range_succ_eq_map, Function.comp_def]
  ring

/-- The `j`-th symbol of the length `i` places on, by its position among all. -/
theorem canonicalCodes_getElem? {counts : List Nat} {i n j : Nat} (l c : Nat) (hn : counts[i]? = some n) (hj : j < n) :
    (canonicalCodes counts l c)[(counts.take i).sum + j]? = some (l + i, firstCode c counts i + j) := by
  induction counts generalizing l c i with
  | nil => simp at hn
  | cons m counts ih =>
    rw [canonicalCodes]
    cases i with
    | zero =>
      obtain rfl : m = n := by simpa using hn
      rw [List.getElem?_append_left (by simpa using hj)]
      simp [hj]
    | succ i =>
      rw [List.take_succ_cons, List.sum_cons, Nat.add_assoc, List.getElem?_append_right (by simp), List.length_map,
        List.length_range, Nat.add_sub_cancel_left, ih _ _ (by simpa using hn), firstCode_succ]
      simp only [Nat.add_assoc, Nat.add_comm 1 i]

/-! ## What the loops write -/

/-- The size and the code that HUFFGEN's tables hold for a symbol. -/
def HuffGen.entry (g : HuffGen) (sym : Byte) : Option Nat × Option Nat := (g.size[sym.toNat]?, g.code[sym.toNat]?)

/-- `sym` is not among the `n` symbols from position `k` on. -/
def Unlisted (vals : List Byte) (sym : Byte) (k n : Nat) : Prop := ∀ i, k ≤ i → i < k + n → byteAt vals i ≠ sym

theorem Unlisted.mono {vals : List Byte} {sym : Byte} {k n k' n' : Nat} (h : Unlisted vals sym k n) (hk : k ≤ k')
    (hn : k' + n' ≤ k + n) : Unlisted vals sym k' n' :=
  fun i hlo hhi => h i (hk.trans hlo) (hhi.trans_le hn)

/-- The loops' registers after the next symbol, of length `l`, has its code. -/
def HuffGen.assign (g : HuffGen) (sym : Byte) (l : Nat) : HuffGen :=
  { k := g.k + 1, c := g.c + 1, code := g.code.set sym.toNat g.c, size := g.size.set sym.toNat l }

@[simp] theorem HuffGen.assign_k (g : HuffGen) (sym : Byte) (l : Nat) : (g.assign sym l).k = g.k + 1 := rfl
@[simp] theorem HuffGen.assign_c (g : HuffGen) (sym : Byte) (l : Nat) : (g.assign sym l).c = g.c + 1 := rfl

theorem HuffGen.Full.assign {g : HuffGen} (h : g.Full) (sym : Byte) (l : Nat) : (g.assign sym l).Full := by
  simpa [HuffGen.Full, HuffGen.assign] using h

theorem HuffGen.Full.assign_entry {g : HuffGen} (h : g.Full) (sym : Byte) (l : Nat) :
    (g.assign sym l).entry sym = (some l, some g.c) := by
  obtain ⟨hcode, hsize⟩ := h
  have hlt : sym.toNat < 256 := sym.isLt
  simp [HuffGen.entry, HuffGen.assign, hcode, hsize, hlt]

theorem HuffGen.assign_entry_of_ne (g : HuffGen) {sym other : Byte} (h : other ≠ sym) (l : Nat) :
    (g.assign other l).entry sym = g.entry sym := by
  have hne : other.toNat ≠ sym.toNat := mt BitVec.eq_of_toNat_eq h
  simp [HuffGen.entry, HuffGen.assign, hne]

theorem huffFill_succ (vals : List Byte) (l n : Nat) (g : HuffGen) :
    huffFill vals l (n + 1) g = huffFill vals l n (g.assign (byteAt vals g.k) l) := rfl

@[simp] theorem huffFill_c (vals : List Byte) (l n : Nat) (g : HuffGen) : (huffFill vals l n g).c = g.c + n := by
  induction n generalizing g with
  | zero => rfl
  | succ n ih => rw [huffFill_succ, ih, HuffGen.assign_c, Nat.add_right_comm, Nat.add_assoc]

theorem huffFill_entry_of_unlisted {vals : List Byte} {sym : Byte} (l n : Nat) {g : HuffGen}
    (h : Unlisted vals sym g.k n) : (huffFill vals l n g).entry sym = g.entry sym := by
  induction n generalizing g with
  | zero => rfl
  | succ n ih =>
    have hrest : Unlisted vals sym (g.k + 1) n := h.mono (by omega) (by omega)
    rw [huffFill_succ, ih hrest, HuffGen.assign_entry_of_ne _ (h g.k le_rfl (by omega))]

/-- The `j`-th of the `n` symbols of length `l` gets the `j`-th code from `c` on, if it is not listed again. -/
theorem huffFill_entry {vals : List Byte} {l n j : Nat} {g : HuffGen} (hg : g.Full) (hj : j < n)
    (hlast : Unlisted vals (byteAt vals (g.k + j)) (g.k + j + 1) (n - j - 1)) :
    (huffFill vals l n g).entry (byteAt vals (g.k + j)) = (some l, some (g.c + j)) := by
  induction n generalizing j g with
  | zero => omega
  | succ n ih =>
    rw [huffFill_succ]
    cases j with
    | zero =>
      rw [huffFill_entry_of_unlisted l n hlast]
      exact hg.assign_entry _ l
    | succ j =>
      have hpos : g.k + (j + 1) = g.k + 1 + j := by omega
      have hcode : g.c + (j + 1) = g.c + 1 + j := by omega
      rw [hpos, hcode]
      exact ih (hg.assign _ l) (Nat.lt_of_succ_lt_succ hj) (hpos ▸ hlast.mono le_rfl (by omega))

/-- Going to the next length doubles the next code. -/
def HuffGen.lengthen (g : HuffGen) : HuffGen := { g with c := 2 * g.c }

@[simp] theorem HuffGen.lengthen_k (g : HuffGen) : g.lengthen.k = g.k := rfl
@[simp] theorem HuffGen.lengthen_c (g : HuffGen) : g.lengthen.c = 2 * g.c := rfl
@[simp] theorem HuffGen.lengthen_entry (g : HuffGen) (sym : Byte) : g.lengthen.entry sym = g.entry sym := rfl

theorem huffLengths_cons (vals : List Byte) (n : Nat) (counts : List Nat) (l : Nat) (g : HuffGen) :
    huffLengths vals (n :: counts) l g = huffLengths vals counts (l + 1) (huffFill vals l n g).lengthen := rfl

theorem huffLengths_entry_of_unlisted {vals : List Byte} {sym : Byte} (counts : List Nat) (l : Nat) {g : HuffGen}
    (h : Unlisted vals sym g.k counts.sum) : (huffLengths vals counts l g).entry sym = g.entry sym := by
  induction counts generalizing l g with
  | nil => rfl
  | cons n counts ih =>
    rw [List.sum_cons] at h
    have hrest : Unlisted vals sym (huffFill vals l n g).lengthen.k counts.sum := h.mono (by simp) (by simp; omega)
    rw [huffLengths_cons, ih _ hrest, HuffGen.lengthen_entry]
    exact huffFill_entry_of_unlisted l n (h.mono le_rfl (by omega))

/-- The `k`-th symbol to come gets the `k`-th canonical code, if it is not listed again. -/
theorem huffLengths_entry {vals : List Byte} {counts : List Nat} {l k : Nat} {e : Nat × Nat} {g : HuffGen}
    (hg : g.Full) (he : (canonicalCodes counts l g.c)[k]? = some e)
    (hlast : Unlisted vals (byteAt vals (g.k + k)) (g.k + k + 1) (counts.sum - k - 1)) :
    (huffLengths vals counts l g).entry (byteAt vals (g.k + k)) = (some e.1, some e.2) := by
  induction counts generalizing l k g with
  | nil => simp [canonicalCodes] at he
  | cons n counts ih =>
    rw [List.sum_cons] at hlast
    rw [canonicalCodes] at he
    rw [huffLengths_cons]
    by_cases hk : k < n
    · rw [List.getElem?_append_left (by simpa using hk), List.getElem?_map, List.getElem?_range hk] at he
      cases he
      rw [huffLengths_entry_of_unlisted counts _ (hlast.mono (by simp; omega) (by simp; omega))]
      exact huffFill_entry hg hk (hlast.mono le_rfl (by omega))
    · obtain ⟨k, rfl⟩ := Nat.exists_eq_add_of_le (Nat.le_of_not_lt hk)
      rw [List.getElem?_append_right (by simp), List.length_map, List.length_range, Nat.add_sub_cancel_left] at he
      have hpos : g.k + (n + k) = (huffFill vals l n g).lengthen.k + k := by simp [Nat.add_assoc]
      rw [hpos] at hlast ⊢
      exact ih (huffFill_full vals l n hg) (by simpa using he) (hlast.mono le_rfl (by omega))

end Sys2Proof.Machine
end

section
/-! SUPPORT. The tables HUFFGEN makes of a whole specification, and of the four standard ones (R29, R231 to R233). -/

namespace Sys2Proof.Machine

/-- HUFFGEN's registers before the first length (R232). -/
def HuffGen.start : HuffGen := { k := 0, c := 0, code := List.replicate 256 0, size := List.replicate 256 0 }

@[simp] theorem HuffGen.start_k : HuffGen.start.k = 0 := rfl
@[simp] theorem HuffGen.start_c : HuffGen.start.c = 0 := rfl

theorem HuffGen.start_full : HuffGen.start.Full := ⟨List.length_replicate, List.length_replicate⟩

theorem HuffGen.start_entry (sym : Byte) : HuffGen.start.entry sym = (some 0, some 0) :=
  Prod.ext (List.getElem?_replicate_of_lt sym.isLt) (List.getElem?_replicate_of_lt sym.isLt)

theorem huffGen_eq {bits : List Nat} (h : bits.length = 16) (vals : List Byte) :
    huffGen bits vals = huffLengths vals bits 1 .start := by
  rw [huffGen, countsOf_self 16 bits h]
  rfl

theorem unlisted_of_not_mem {vals : List Byte} {sym : Byte} (h : sym ∉ vals) {k n : Nat} (hn : k + n ≤ vals.length) :
    Unlisted vals sym k n :=
  fun _ _ hhi heq => h (heq ▸ List.mem_of_getElem? (getElem?_eq_some_byteAt (hhi.trans_le hn)))

/-- In a list without repetitions a symbol is at no position after its own. -/
theorem unlisted_of_nodup {vals : List Byte} (h : vals.Nodup) {p k n : Nat} (hk : p < k)
    (hn : k + n ≤ vals.length) : Unlisted vals (byteAt vals p) k n := by
  intro i hlo hhi heq
  have hi : vals[i]? = vals[p]? := by
    rw [getElem?_eq_some_byteAt (by omega), getElem?_eq_some_byteAt (by omega), heq]
  have hip : i = p := (List.getElem?_inj (by omega) h).mp hi
  omega

section
variable {bits : List Nat} {vals : List Byte} (hlen : bits.length = 16) (hsum : bits.sum = vals.length)
include hlen hsum

/-- The `k`-th symbol of a specification has the `k`-th canonical code. -/
theorem huffGen_entry (hnodup : vals.Nodup) {k : Nat} {sym : Byte} {e : Nat × Nat} (hsym : vals[k]? = some sym)
    (he : (canonicalCodes bits 1 0)[k]? = some e) : (huffGen bits vals).entry sym = (some e.1, some e.2) := by
  obtain ⟨hk, -⟩ := List.getElem?_eq_some_iff.mp hsym
  have hlast : Unlisted vals (byteAt vals k) (k + 1) (bits.sum - k - 1) :=
    unlisted_of_nodup hnodup (Nat.lt_succ_self k) (by omega)
  have hentry := huffLengths_entry (k := k) HuffGen.start_full he (by simpa using hlast)
  rwa [HuffGen.start_k, Nat.zero_add, byteAt_of_getElem? hsym, ← huffGen_eq hlen] at hentry

theorem huffGen_entry_of_not_mem {sym : Byte} (h : sym ∉ vals) : (huffGen bits vals).entry sym = (some 0, some 0) := by
  have hfree : Unlisted vals sym HuffGen.start.k bits.sum := unlisted_of_not_mem h (by simp [hsum])
  rw [huffGen_eq hlen, huffLengths_entry_of_unlisted bits 1 hfree, HuffGen.start_entry]

end

/-- Settles O47: by the canonical code at the symbol's position, and the entry that no symbol's code replaces. -/
theorem huffgenIsCanonical : Obligations.HuffgenIsCanonical := by
  unfold Obligations.HuffgenIsCanonical
  intro s bits vals hlen hsum
  refine ⟨(huffGen bits vals).code, (huffGen bits vals).size, rfl, ?listed, ?notListed⟩
  case listed =>
    intro hnodup l n j sym hn hj hsym
    obtain ⟨hsize, hcode⟩ :=
      Prod.mk.inj (huffGen_entry hlen hsum hnodup hsym (canonicalCodes_getElem? 1 0 hn hj))
    exact ⟨by rw [hsize, Nat.add_comm], by simp [hcode, firstCode]⟩
  case notListed =>
    intro sym hsym
    exact (Prod.mk.inj (huffGen_entry_of_not_mem hlen hsum hsym)).1

/-! ## The standard tables -/

theorem huffBits_length (t : HuffId) : (huffBits t).length = 16 := by cases t <;> rfl

theorem huffBits_sum (t : HuffId) : (huffBits t).sum = (huffVals t).length := by cases t <;> decide +kernel

theorem huffVals_nodup (t : HuffId) : (huffVals t).Nodup := by
  refine List.Nodup.of_map BitVec.toNat ?_
  cases t <;> decide +kernel

/-- The listing of R233 is the canonical codes of each table's counts, in order. -/
theorem huffInstrs_map_encode (t : HuffId) :
    (huffInstrs t).map encode = (canonicalCodes (huffBits t) 1 0).map (fun e => .code t e.2 e.1) := by
  cases t <;> rfl

/-- Settles O48: symbol and listed instruction at one position have the canonical code of that position. -/
theorem standardCodesAreListed : Obligations.StandardCodesAreListed := by
  unfold Obligations.StandardCodesAreListed
  refine fun t => ⟨by cases t <;> rfl, fun k sym i hsym hi => ?_⟩
  have hcodes := congrArg (·[k]?) (huffInstrs_map_encode t)
  simp only [List.getElem?_map, hi, Option.map_some] at hcodes
  obtain ⟨e, he, hcode⟩ := Option.map_eq_some_iff.mp hcodes.symm
  obtain ⟨hsizeAt, hcodeAt⟩ := Prod.mk.inj
    (huffGen_entry (huffBits_length t) (huffBits_sum t) (huffVals_nodup t) hsym he)
  simp [← hcode, huffTable, HuffTable.codeOf, HuffTable.sizeOf, List.getD, hsizeAt, hcodeAt]

end Sys2Proof.Machine
end

section
/-! SUPPORT. The zig-zag order (R230). -/

namespace Sys2Proof.Machine

/-- Settles O46: each clause is about the 64 entries of one literal list. -/
theorem zigzagPermutes : Obligations.ZigzagPermutes := by
  unfold Obligations.ZigzagPermutes
  exact ⟨by decide, by decide, by decide, by decide⟩

end Sys2Proof.Machine
end

section
/-! SUPPORT. PUTBITS, EMIT_ECS and FLUSH as instructions (R260 to R262), by the bit view of the coder. -/

namespace Sys2Proof.Machine

/-! ## PUTBITS (R260) -/

theorem exec_putbits_of_held {s : State} (h : s.bitbuf.length ≤ 7) (v n : Nat) :
    exec (.putbits v n) s = .next (s.withCoder (s.coder.pushBits (bitsMsb v n))) :=
  congrArg (fun k => Host.Outcome.next (s.withCoder k)) (Coder.putBits_eq_pushBits (k := s.coder) h v n)

/-- Settles O55: PUTBITS appends its bits in one go, and two appends are the append of both. -/
theorem putbitsAppendsBits : Obligations.PutbitsAppendsBits := by
  unfold Obligations.PutbitsAppendsBits
  intro s v n h
  have hheld : (s.coder.pushBits (bitsMsb v n)).bitbuf.length ≤ 7 := Coder.pushBits_bitbuf_length _ _
  refine ⟨_, rfl, hheld, exec_putbits_of_held h v n, fun w m => ⟨_, rfl, ?_⟩⟩
  rw [← Coder.pushBits_pushBits]
  exact exec_putbits_of_held (s := s.withCoder (s.coder.pushBits (bitsMsb v n))) hheld w m

/-! ## EMIT_ECS (R261) -/

theorem exec_emitEcs (b : Byte) (s : State) : exec (.emitEcs b) s = .next (s.withOut (s.out ++ stuff [b])) :=
  congrArg (fun k => Host.Outcome.next (s.withCoder k)) (s.coder.emitEcs_eq b)

theorem stuff_singleton (b : Byte) : stuff [b] = if b = 0xFF then [0xFF, 0x00] else [b] := by simp [stuff]

/-- Settles O56: the byte and its stuffing are appended to OUT. -/
theorem emitEcsStuffs : Obligations.EmitEcsStuffs := by
  unfold Obligations.EmitEcsStuffs
  intro s b
  rw [exec_emitEcs, stuff_singleton]
  rfl

/-! ## FLUSH (R262) -/

/-- FLUSH sends the bits held with the 1 bits that complete their byte. -/
theorem exec_flush_eq_padOnes {s : State} (h : s.bitbuf.length ≤ 7) :
    exec .flush s = .next ((s.withBitbuf []).withOut (s.out ++ stuff (packBytes (padOnes s.bitbuf)))) := by
  have hpush := Coder.flush_eq_pushBits (k := s.coder) h
  have hempty := Coder.flush_bitbuf (k := s.coder) h
  rw [exec_flush_of_held h, State.flush, State.withCoder, hempty, hpush]
  rfl

/-- Settles O57: by the padded byte of the bits held, which is no byte at all when none are. -/
theorem flushPadsWithOnes : Obligations.FlushPadsWithOnes := by
  unfold Obligations.FlushPadsWithOnes
  refine fun s h => ⟨exec_flush_eq_padOnes h, fun hnone => ?_⟩
  have hout : s.out ++ stuff (packBytes (padOnes [])) = s.out := List.append_nil _
  rw [exec_flush_eq_padOnes h, hnone, hout, ← hnone]
  rfl

end Sys2Proof.Machine
end

section
/-! SUPPORT. The segments of the header written out (R103 to R109), and the instructions that append them to OUT (R263
to R271). -/

namespace Sys2Proof.Machine

/-! ## The segments' fields -/

/-- BE16 by quotient and remainder (R12). -/
theorem be16_eq (v : Half) : be16 v = [BitVec.ofNat 8 (v.toNat / 256), BitVec.ofNat 8 v.toNat] := by
  have hhigh : v.extractLsb' 8 8 = BitVec.ofNat 8 (v.toNat / 256) := by
    rw [BitVec.extractLsb', Nat.shiftRight_eq_div_pow]
  have hlow : v.extractLsb' 0 8 = BitVec.ofNat 8 v.toNat := rfl
  rw [be16, hhigh, hlow]

theorem be16_ofNat (n : Nat) : be16 (BitVec.ofNat 16 n) = [BitVec.ofNat 8 (n / 256), BitVec.ofNat 8 n] := by
  simp only [be16_eq, List.cons.injEq, ← BitVec.toNat_inj, BitVec.toNat_ofNat, and_true]
  constructor <;> omega

theorem ColorType.ncomp_cases (ct : ColorType) : ct.ncomp = 1 ∨ ct.ncomp = 3 ∨ ct.ncomp = 4 := by
  cases ct <;> decide

theorem State.ncomp_cases (s : State) : s.ncomp = 1 ∨ s.ncomp = 3 ∨ s.ncomp = 4 := s.colorType.ncomp_cases

/-- In a table of 64 entries the zig-zag order reads no entry that is absent (R230). -/
theorem zigzag_map_byteAt {qt : List Byte} (h : qt.length = 64) :
    zigzag.map (byteAt qt) = zigzag.map (fun i => qt.getD i 0) := by
  refine List.map_congr_left fun i hi => ?_
  have hlt : i < qt.length := h ▸ (by decide : ∀ j ∈ zigzag, j < 64) i hi
  simp [byteAt, List.getD, hlt]

/-! ## The segments that depend on the configuration or the tables -/

theorem sof0Bytes_eq (w h : Half) (ct : ColorType) : sof0Bytes w h ct.ncomp =
    [0xFF, 0xC0, 0x00, BitVec.ofNat 8 (8 + 3 * ct.ncomp), 0x08, BitVec.ofNat 8 (h.toNat / 256),
      BitVec.ofNat 8 h.toNat, BitVec.ofNat 8 (w.toNat / 256), BitVec.ofNat 8 w.toNat, BitVec.ofNat 8 ct.ncomp] ++
    ([0x01, 0x11, 0x00, 0x02, 0x11, 0x01, 0x03, 0x11, 0x01, 0x04, 0x11, 0x00] : List Byte).take (3 * ct.ncomp) := by
  rw [sof0Bytes, be16_eq w, be16_eq h]
  obtain hn | hn | hn := ct.ncomp_cases <;> rw [hn] <;> rfl

theorem sosBytes_eq (ct : ColorType) : sosBytes ct.ncomp =
    [0xFF, 0xDA, 0x00, BitVec.ofNat 8 (6 + 2 * ct.ncomp), BitVec.ofNat 8 ct.ncomp] ++
      ([0x01, 0x00, 0x02, 0x11, 0x03, 0x11, 0x04, 0x00] : List Byte).take (2 * ct.ncomp) ++ [0x00, 0x3F, 0x00] := by
  obtain hn | hn | hn := ct.ncomp_cases <;> rw [hn] <;> rfl

theorem dhtBytes_eq (cls h : Fin 2) (T : HuffTable) : dhtBytes cls h T =
    [0xFF, 0xC4, BitVec.ofNat 8 ((19 + T.vals.length) / 256), BitVec.ofNat 8 (19 + T.vals.length),
      BitVec.ofNat 8 (16 * cls.val + h.val)] ++ T.bits.map (BitVec.ofNat 8) ++ T.vals := by
  rw [dhtBytes, be16_ofNat]
  rfl

/-! ## The writers -/

section
variable (s : State)

theorem exec_writeSoi : exec .writeSoi s = .next (s.withOut (s.out ++ soiBytes)) := rfl
theorem exec_writeApp0 : exec .writeApp0 s = .next (s.withOut (s.out ++ app0Bytes)) := rfl
theorem exec_writeApp14 : exec .writeApp14 s = .next (s.withOut (s.out ++ app14Bytes)) := rfl
theorem exec_writeDqt (t : Fin 2) : exec (.writeDqt t) s = .next (s.withOut (s.out ++ dqtBytes t (s.qt t))) := rfl
theorem exec_writeSof0 : exec .writeSof0 s = .next (s.withOut (s.out ++ sof0Bytes s.width s.height s.ncomp)) := rfl
theorem exec_writeDht (cls h : Fin 2) :
    exec (.writeDht cls h) s = .next (s.withOut (s.out ++ dhtBytes cls h (s.ht cls h))) := rfl
theorem exec_writeSos : exec .writeSos s = .next (s.withOut (s.out ++ sosBytes s.ncomp)) := rfl

end

/-- Settles O58: each writer appends its segment, and the segment's fields are those bytes. -/
theorem markersWriteTheirBytes : Obligations.MarkersWriteTheirBytes := by
  unfold Obligations.MarkersWriteTheirBytes
  refine fun s => ⟨fun _ => rfl, rfl, rfl, rfl, fun t hlen => ⟨_, rfl, ?dqt⟩, ?sof0, fun cls h => ⟨_, rfl, ?dht⟩,
    ?sos, rfl⟩
  case dqt =>
    rw [exec_writeDqt, dqtBytes, zigzag_map_byteAt hlen]
    rfl
  case sof0 =>
    rw [exec_writeSof0, State.ncomp, sof0Bytes_eq]
    rfl
  case dht =>
    rw [exec_writeDht, dhtBytes_eq]
    rfl
  case sos =>
    rw [exec_writeSos, State.ncomp, sosBytes_eq]
    rfl

end Sys2Proof.Machine
end

section
/-! SUPPORT. The header: WRITE_HEADER as its writers in order (R272), the header's length and fields (R273). -/

namespace Sys2Proof.Machine

/-! ## WRITE_HEADER (R272) -/

/-- The segments that WRITE_HEADER appends, from the configuration and the tables that the state holds. -/
def State.headerSegments (s : State) : List Byte :=
  soiBytes ++ (if s.ncomp = 4 then app14Bytes else app0Bytes) ++ dqtBytes 0 (s.qt 0) ++
  (if 1 < s.ncomp then dqtBytes 1 (s.qt 1) else []) ++ sof0Bytes s.width s.height s.ncomp ++
  dhtBytes 0 0 (s.ht 0 0) ++ dhtBytes 1 0 (s.ht 1 0) ++
  (if 1 < s.ncomp then dhtBytes 0 1 (s.ht 0 1) ++ dhtBytes 1 1 (s.ht 1 1) else []) ++ sosBytes s.ncomp

/-- The writers of R272 for `n` components. -/
def headerWriters (n : Nat) : List Instr :=
  [.writeSoi, if n = 4 then .writeApp14 else .writeApp0, .writeDqt 0] ++
    (if 1 < n then [.writeDqt 1] else []) ++ [.writeSof0, .writeDht 0 0, .writeDht 1 0] ++
    (if 1 < n then [.writeDht 0 1, .writeDht 1 1] else []) ++ [.writeSos]

theorem State.writeHeader_eq (s : State) : s.writeHeader = s.withOut (s.out ++ s.headerSegments) := by
  obtain hn | hn | hn := s.ncomp_cases <;>
    simp [State.writeHeader, State.writeSoi, State.writeApp0, State.writeApp14, State.writeDqt, State.writeSof0,
      State.writeDht, State.writeSos, State.writeRaw_eq, State.headerSegments, hn]

theorem runInstrs_headerWriters (s : State) :
    runInstrs (headerWriters s.ncomp) s = some (s.withOut (s.out ++ s.headerSegments)) := by
  obtain hn | hn | hn := s.ncomp_cases <;>
    simp [headerWriters, runInstrs, exec_writeSoi, exec_writeApp0, exec_writeApp14, exec_writeDqt, exec_writeSof0,
      exec_writeDht, exec_writeSos, State.headerSegments, hn]

/-- A configured state holds the tables of HEADER. -/
theorem State.Configured.headerSegments_eq {s : State} (h : s.Configured) :
    s.headerSegments = headerBytes s.width s.height s.colorType s.quality.toNat := by
  obtain ⟨-, -, -, -, hluma, hchroma, hdc0, hac0, hdc1, hac1⟩ := h
  rw [State.headerSegments, headerBytes, show s.qt 0 = _ from hluma, show s.qt 1 = _ from hchroma,
    show s.ht 0 0 = _ from hdc0, show s.ht 1 0 = _ from hac0, show s.ht 0 1 = _ from hdc1,
    show s.ht 1 1 = _ from hac1]
  rfl

/-- Settles O59: both append the same segments, which are HEADER's for a configured state's tables. -/
theorem writeHeaderSequence : Obligations.WriteHeaderSequence := by
  unfold Obligations.WriteHeaderSequence
  intro s
  have hexec : exec .writeHeader s = .next (s.withOut (s.out ++ s.headerSegments)) :=
    congrArg Host.Outcome.next s.writeHeader_eq
  refine ⟨⟨_, hexec, runInstrs_headerWriters s⟩, fun hconf => ?_⟩
  rw [hexec, hconf.headerSegments_eq]
  rfl

/-! ## HEADER (R273) -/

/-- The segments of HEADER before SOF0. -/
def headerFront (ct : ColorType) (q : Nat) : List Byte :=
  soiBytes ++ (if ct.ncomp = 4 then app14Bytes else app0Bytes) ++ dqtBytes 0 (qscale baseLuma q) ++
    (if ct.ncomp > 1 then dqtBytes 1 (qscale baseChroma q) else [])

/-- The segments of HEADER after SOF0. -/
def headerBack (ct : ColorType) : List Byte :=
  dhtBytes 0 0 (huffTable .dc0) ++ dhtBytes 1 0 (huffTable .ac0) ++
    (if ct.ncomp > 1 then dhtBytes 0 1 (huffTable .dc1) ++ dhtBytes 1 1 (huffTable .ac1) else []) ++ sosBytes ct.ncomp

theorem headerBytes_eq (w h : Half) (ct : ColorType) (q : Nat) :
    headerBytes w h ct q = headerFront ct q ++ (sof0Bytes w h ct.ncomp ++ headerBack ct) := by
  simp only [headerBytes, headerFront, headerBack, List.append_assoc]

@[simp] theorem dqtBytes_length (t : Fin 2) (qt : List Byte) : (dqtBytes t qt).length = 69 := by
  rw [dqtBytes, List.length_append, List.length_map]
  rfl

@[simp] theorem dhtBytes_huffTable_length (cls h : Fin 2) (t : HuffId) :
    (dhtBytes cls h (huffTable t)).length = 21 + (huffBits t).sum := by
  have hbits : (huffTable t).bits.length = 16 := huffBits_length t
  have hvals : (huffTable t).vals.length = (huffBits t).sum := (huffBits_sum t).symm
  rw [dhtBytes_eq, List.length_append, List.length_append, List.length_map, hbits, hvals]
  rfl

theorem sosBytes_length (ct : ColorType) : (sosBytes ct.ncomp).length = 8 + 2 * ct.ncomp := by
  obtain hn | hn | hn := ct.ncomp_cases <;> rw [hn] <;> rfl

theorem headerFront_length (ct : ColorType) (q : Nat) :
    (headerFront ct q).length = if ct.ncomp = 1 then 89 else if ct.ncomp = 3 then 158 else 156 := by
  obtain hn | hn | hn := ct.ncomp_cases <;> simp [headerFront, hn, soiBytes, app0Bytes, app14Bytes]

theorem sof0Bytes_length (w h : Half) (ct : ColorType) : (sof0Bytes w h ct.ncomp).length = 10 + 3 * ct.ncomp := by
  obtain hn | hn | hn := ct.ncomp_cases <;> rw [hn] <;> rfl

theorem headerBack_length (ct : ColorType) :
    (headerBack ct).length = if ct.ncomp = 1 then 226 else if ct.ncomp = 3 then 446 else 448 := by
  rw [headerBack, List.length_append, sosBytes_length]
  obtain hn | hn | hn := ct.ncomp_cases <;> simp [hn, huffBits]

theorem headerBytes_length (w h : Half) (ct : ColorType) (q : Nat) : (headerBytes w h ct q).length =
    if ct.ncomp = 1 then 328 else if ct.ncomp = 3 then 623 else 626 := by
  rw [headerBytes_eq, List.length_append, List.length_append, headerFront_length, sof0Bytes_length, headerBack_length]
  obtain hn | hn | hn := ct.ncomp_cases <;> rw [hn] <;> rfl

/-- HEADER reads of the colour type only NCOMP. -/
theorem headerBytes_congr (w h : Half) {ct ct' : ColorType} (hn : ct'.ncomp = ct.ncomp) (q : Nat) :
    headerBytes w h ct' q = headerBytes w h ct q := by
  rw [headerBytes, headerBytes, hn]

/-- SOF0's height and width are its bytes 5 to 8. -/
theorem sof0Bytes_dimensions (w h : Half) (ct : ColorType) (rest : List Byte) :
    ((sof0Bytes w h ct.ncomp ++ rest).drop 5).take 4 =
      [BitVec.ofNat 8 (h.toNat / 256), BitVec.ofNat 8 h.toNat, BitVec.ofNat 8 (w.toNat / 256),
        BitVec.ofNat 8 w.toNat] := by
  rw [sof0Bytes_eq]
  rfl

/-- Settles O60: by the lengths of the segments before SOF0, of SOF0, and of the segments after it. -/
theorem headerLengths : Obligations.HeaderLengths := by
  unfold Obligations.HeaderLengths
  refine fun w h c q => ⟨headerBytes_length w h c q, rfl, fun _ hn => headerBytes_congr w h hn q, fun hn => ?_⟩
  have hfront : (headerFront c q).length = 158 := by simp [headerFront_length, hn]
  rw [headerBytes_eq, show 163 = (headerFront c q).length + 5 by omega, List.drop_length_add_append,
    sof0Bytes_dimensions]

end Sys2Proof.Machine
end

section
/-! SUPPORT. The exceptions of the commands (R65, R300): a command is rejected or it succeeds, and a rejection is the
one way to answer with a status other than Ok. -/

namespace Sys2Proof.Machine

/-- A host command is rejected, or it gives a state whose response has the status Ok. -/
theorem HostCommand.exec_reject_or_ok {i : Instr} (hi : HostCommand i) (s : State) :
    (∃ st, exec i s = .next (s.reject st)) ∨
      ∃ t bytes, exec i s = .next t ∧ t.response = some ⟨.ok, bytes⟩ := by
  cases hi with
  | construct w h b q =>
    obtain ⟨st, heq⟩ | ⟨ct, -, heq⟩ := exec_construct_eq w h b q
    · exact .inl ⟨st, heq s⟩
    · exact .inr ⟨_, _, heq s, State.respond_response ..⟩
  | encodeStrip rows =>
    obtain hreject | ⟨-, -, -, heq⟩ := exec_encodeStrip_cases rows s
    · exact .inl hreject
    · exact .inr ⟨_, _, heq, State.respondDrain_response _⟩
  | finish =>
    obtain hreject | ⟨-, -, heq⟩ := exec_finish_cases s
    · exact .inl hreject
    · exact .inr ⟨_, _, heq, State.respondDrain_response _⟩
  | takeOutput =>
    obtain hreject | heq := exec_takeOutput_cases s
    · exact .inl hreject
    · exact .inr ⟨_, _, heq, State.respondDrain_response s⟩
  | headerBytes w h b q =>
    cases hcheck : checkConfig w h b q with
    | error st => exact .inl ⟨st, exec_headerBytes_of_error hcheck s⟩
    | ok ct => exact .inr ⟨_, _, exec_headerBytes_of_legal (checkConfig_legal hcheck) s, State.respond_response ..⟩
  | footerBytes => exact .inr ⟨_, _, exec_footerBytes s, State.respond_response ..⟩
  | dispose => exact .inr ⟨s.dispose, _, rfl, State.respond_response ..⟩
  | reserved heq => exact .inl ⟨.illegalCommand, heq s⟩

/-- Settles O20: a rejection writes the response alone, with no bytes, and every other answer has the status Ok. -/
theorem rejectedCommandChangesNothing : Obligations.RejectedCommandChangesNothing := by
  unfold Obligations.RejectedCommandChangesNothing
  intro s i hi
  obtain ⟨st, heq⟩ | ⟨t, bytes, heq, hr⟩ := (hostCommand_of_isCommand hi).exec_reject_or_ok s
  · exact ⟨s.reject st, ⟨st, []⟩, heq, s.reject_response st, fun _ => ⟨rfl, rfl⟩⟩
  · exact ⟨t, ⟨.ok, bytes⟩, heq, hr, fun hne => absurd rfl hne⟩

end Sys2Proof.Machine
end
